-- ==== Sys2Proof/Word.lean ====
section
/-! DEFINITION. The value types of 00_scope.md R9 and the 128-bit transaction word of 30_encoding.md R61. -/

namespace Sys2Proof

/-- `u8` of R9: device, parameter, sub-packet, event code, data byte. -/
abbrev Byte := BitVec 8

/-- `Id29` of R9: the wire identifier (R34, R51). -/
abbrev Id29 := BitVec 29

/-- `Len` of R9: an integer 0..8, the length of a frame payload. -/
abbrev Len := Fin 9

/-- `Bytes8` of R9: exactly eight bytes, indexed 0..7. -/
abbrev Bytes8 := Vector Byte 8

/-- `Trig` of R9 and R57: the 16-bit trigger word. -/
abbrev Trig := BitVec 16

/-- `Cnt` of R9: a 32-bit unsigned counter (`P_CNT_WIDTH`, R7). -/
abbrev Cnt := BitVec 32

/-- The transaction word `T` of R61: every transaction is 128 bits (R63). -/
abbrev Word := BitVec 128

/-- `Result` of R9: the link's immediate answer to a transmit start. -/
inductive LinkResult where
  | ok
  | fail
deriving DecidableEq, Repr

/-- The WireAddress of R14: a value the codec takes and returns, not a stored element. -/
structure WireAddress where
  device : Byte
  parameter : Byte
  subpacket : Byte
deriving DecidableEq, Repr

end Sys2Proof
end

