-- ==== Sys2Proof/Config.lean ====
section
/-! DEFINITION. The implementation parameters of 00_scope.md R6 and R7, and the free values the spec calls draws or
leaves unwritten. A constant with no body is one the spec leaves open: nothing can be proved of its value. -/

namespace Sys2Proof.Config

/-- `P_MAX_DATA` of R6: maximum payload bytes per frame. -/
def maxData : Nat := 8

/-- `P_TQ_DEPTH` of R6: capacity of the trigger queue. -/
def tqDepth : Nat := 128

/-- `P_CQ_DEPTH` of R6: capacity of the command queue. -/
def cqDepth : Nat := 64

/-- `P_FILTER_MESS` of R7 and R55: bits 28:8 set, bits 7:0 clear. -/
def filterMess : Id29 := 0x1FFFFF00#29

/-- The three OPEN parameters of R7, which a model takes as arguments. No transaction writes them (R26). -/
structure Params where
  /-- `P_LOG_ID` (D27). -/
  logId : Byte
  /-- `P_CONFIG_ID` (D27). -/
  configId : Byte
  /-- `P_LOG_FALLTHROUGH` (D5). -/
  logFallthrough : Bool
deriving DecidableEq, Repr, Inhabited

/-- The parameter values of the block at hand: fixed from reset onwards (R26, R116) and OPEN (R7).
Safe: a claim about them is a claim for every value (log 5). -/
opaque params : Params

/-- The permit a RESET draws, 0 or 1 (R32, R114), for each draw number. Free value (log 7). -/
opaque resetPermit : Nat → Bool

/-- What the scratch buffer holds after RESET left it unwritten (R32, R114). Free value (log 7). -/
opaque resetRxBuf : Nat → Bytes8

/-- What the latched identifier holds after RESET left it unwritten (R32, R114). Free value (log 7). -/
opaque resetTxId : Nat → Id29

/-- What the latched data holds after RESET left it unwritten (R32, R114). Free value (log 7). -/
opaque resetTxData : Nat → Bytes8

/-- What the latched length holds after RESET left it unwritten: still a `Len` (R9). Free value (log 7). -/
opaque resetTxLen : Nat → Len

/-- The byte the link presents at an index at or above the frame's `len` (R85, R121), for a draw number, an index and
the byte the transaction word holds there. Free value (log 8). -/
opaque unusedByte : Nat → Nat → Byte → Byte

end Sys2Proof.Config
end

