-- ==== Sys2Proof/Syntax.lean ====
section
/-! DEFINITION. The transactions of the block: one constructor per row of spec/opcode_table.json (30_encoding.md R61).
The pseudo-operations of R65 are sequences of these and have no constructor. -/

namespace Sys2Proof

/-- One transaction of the block. The operand `len` is the raw four-bit field T[7:4]: values 9..15 are ill-formed (R62). -/
inductive Instr where
  /-- ENCODE (40_codec.md R66). -/
  | encode (device parameter subpacket : Byte)
  /-- DECODE (40_codec.md R67). -/
  | decode (id : Id29)
  /-- FILTER (40_codec.md R68). -/
  | filter (id : Id29)
  /-- EVCODE (40_codec.md R69). -/
  | evcode (id : Id29)
  /-- RX_FRAME (42_router.md R84); `rtr` is the request flag of R27. -/
  | rxFrame (id : Id29) (rtr : Bool) (len : BitVec 4) (data : Bytes8)
  /-- TX_DONE (41_tx_sequencer.md R77). -/
  | txDone
  /-- SEND_ACCEPT (41_tx_sequencer.md R74). -/
  | sendAccept (id : Id29) (len : BitVec 4) (data : Bytes8)
  /-- SEND_ISSUE (41_tx_sequencer.md R75); `res` is the link's answer. -/
  | sendIssue (res : LinkResult)
  /-- SEND_FINISH (41_tx_sequencer.md R76). -/
  | sendFinish
  /-- PUSH_TRIG (43_queues.md R95). -/
  | pushTrig (trig : Trig)
  /-- POP_TRIG (43_queues.md R96). -/
  | popTrig
  /-- POP_CMD (43_queues.md R97). -/
  | popCmd
  /-- STATUS (43_queues.md R98). -/
  | status
  /-- RESET (70_reset_and_hazards.md R114). -/
  | reset
deriving DecidableEq, Repr

end Sys2Proof
end

