-- ==== Sys2Proof/WellFormed.lean ====
section
/-! DEFINITION. Which transactions some legal word spells: the length bound of 30_encoding.md R62 is the only check the
operand types do not already make. -/

namespace Sys2Proof

/-- The `len` field is in 0..8 (R62, third case). -/
def lenInRange (len : BitVec 4) : Bool := decide (len.toNat ≤ Config.maxData)

/-- A transaction is well formed when a word that R62 does not refuse for its bits spells it. -/
def Instr.wellFormed : Instr → Bool
  | .encode _ _ _ => true
  | .decode _ => true
  | .filter _ => true
  | .evcode _ => true
  | .rxFrame _ _ len _ => lenInRange len
  | .txDone => true
  | .sendAccept _ len _ => lenInRange len
  | .sendIssue _ => true
  | .sendFinish => true
  | .pushTrig _ => true
  | .popTrig => true
  | .popCmd => true
  | .status => true
  | .reset => true

end Sys2Proof
end

