-- ==== Sys2Proof/Decode.lean ====
section
/-! DEFINITION. Reading and writing the 128-bit transaction word (30_encoding.md R61, R62) and the mask and match of each
row of spec/opcode_table.json. -/

namespace Sys2Proof

/-! ### The fields of R61 -/

/-- `op` = T[3:0]. -/
def opField (w : Word) : BitVec 4 := w.extractLsb' 0 4

/-- `len` = T[7:4]. -/
def lenField (w : Word) : BitVec 4 := w.extractLsb' 4 4

/-- T[8]: `rtr` for RX_FRAME, `res` for SEND_ISSUE. -/
def flagField (w : Word) : BitVec 1 := w.extractLsb' 8 1

/-- `id` = T[44:16]. -/
def idField (w : Word) : Id29 := w.extractLsb' 16 29

/-- `device` = T[39:32] (ENCODE). -/
def deviceField (w : Word) : Byte := w.extractLsb' 32 8

/-- `parameter` = T[31:24] (ENCODE). -/
def parameterField (w : Word) : Byte := w.extractLsb' 24 8

/-- `subpacket` = T[23:16] (ENCODE). -/
def subpacketField (w : Word) : Byte := w.extractLsb' 16 8

/-- Data byte `i` = T[55+8i : 48+8i]. -/
def dataByteField (w : Word) (i : Nat) : Byte := w.extractLsb' (48 + 8 * i) 8

/-- `data` = T[111:48], byte 0 lowest. -/
def dataField (w : Word) : Bytes8 :=
  #v[dataByteField w 0, dataByteField w 1, dataByteField w 2, dataByteField w 3,
     dataByteField w 4, dataByteField w 5, dataByteField w 6, dataByteField w 7]

/-- `trig` = T[127:112]. -/
def trigField (w : Word) : Trig := w.extractLsb' 112 16

/-- `res`: 0 = OK, 1 = FAIL (R75). -/
def resOfFlag (b : BitVec 1) : LinkResult := if b = 1#1 then .fail else .ok

/-- The bit that spells a link result (R75). -/
def flagOfRes : LinkResult → BitVec 1
  | .ok => 0#1
  | .fail => 1#1

/-! ### The rows of the opcode table -/

/-- A row of spec/opcode_table.json: a word is the row's when its bits under `mask` are `pattern`. -/
structure Row where
  mnemonic : String
  pattern : Word
  mask : Word
deriving DecidableEq, Repr

def rowEncode : Row := ⟨"ENCODE", 0x00000000000000000000000000000001, 0xFFFFFFFFFFFFFFFFFFFFFF000000FFFF⟩
def rowDecode : Row := ⟨"DECODE", 0x00000000000000000000000000000002, 0xFFFFFFFFFFFFFFFFFFFFE0000000FFFF⟩
def rowFilter : Row := ⟨"FILTER", 0x00000000000000000000000000000003, 0xFFFFFFFFFFFFFFFFFFFFE0000000FFFF⟩
def rowEvcode : Row := ⟨"EVCODE", 0x00000000000000000000000000000004, 0xFFFFFFFFFFFFFFFFFFFFE0000000FFFF⟩
def rowRxFrame : Row := ⟨"RX_FRAME", 0x00000000000000000000000000000005, 0xFFFF0000000000000000E0000000FE0F⟩
def rowTxDone : Row := ⟨"TX_DONE", 0x00000000000000000000000000000006, 0xFFFFFFFFFFFFFFFFFFFFFFFFFFFFFFFF⟩
def rowSendAccept : Row := ⟨"SEND_ACCEPT", 0x00000000000000000000000000000007, 0xFFFF0000000000000000E0000000FF0F⟩
def rowSendIssue : Row := ⟨"SEND_ISSUE", 0x00000000000000000000000000000008, 0xFFFFFFFFFFFFFFFFFFFFFFFFFFFFFEFF⟩
def rowSendFinish : Row := ⟨"SEND_FINISH", 0x00000000000000000000000000000009, 0xFFFFFFFFFFFFFFFFFFFFFFFFFFFFFFFF⟩
def rowPushTrig : Row := ⟨"PUSH_TRIG", 0x0000000000000000000000000000000A, 0x0000FFFFFFFFFFFFFFFFFFFFFFFFFFFF⟩
def rowPopTrig : Row := ⟨"POP_TRIG", 0x0000000000000000000000000000000B, 0xFFFFFFFFFFFFFFFFFFFFFFFFFFFFFFFF⟩
def rowPopCmd : Row := ⟨"POP_CMD", 0x0000000000000000000000000000000C, 0xFFFFFFFFFFFFFFFFFFFFFFFFFFFFFFFF⟩
def rowStatus : Row := ⟨"STATUS", 0x0000000000000000000000000000000D, 0xFFFFFFFFFFFFFFFFFFFFFFFFFFFFFFFF⟩
def rowReset : Row := ⟨"RESET", 0x0000000000000000000000000000000F, 0xFFFFFFFFFFFFFFFFFFFFFFFFFFFFFFFF⟩

/-- The whole opcode table, in its own order. -/
def opcodeTable : List Row :=
  [rowEncode, rowDecode, rowFilter, rowEvcode, rowRxFrame, rowTxDone, rowSendAccept,
   rowSendIssue, rowSendFinish, rowPushTrig, rowPopTrig, rowPopCmd, rowStatus, rowReset]

/-- The row a transaction belongs to. -/
def rowOf : Instr → Row
  | .encode _ _ _ => rowEncode
  | .decode _ => rowDecode
  | .filter _ => rowFilter
  | .evcode _ => rowEvcode
  | .rxFrame _ _ _ _ => rowRxFrame
  | .txDone => rowTxDone
  | .sendAccept _ _ _ => rowSendAccept
  | .sendIssue _ => rowSendIssue
  | .sendFinish => rowSendFinish
  | .pushTrig _ => rowPushTrig
  | .popTrig => rowPopTrig
  | .popCmd => rowPopCmd
  | .status => rowStatus
  | .reset => rowReset

/-- Every bit the row's operation does not use is 0 (R61, R62). -/
def fixedBitsOk (r : Row) (w : Word) : Bool := w &&& r.mask == r.pattern

/-! ### The decoder -/

/-- Why R62 refuses a word for its bits. -/
inductive DecodeError where
  /-- `op` is 0x0 or 0xE (R62, first case). -/
  | reservedOp (op : BitVec 4)
  /-- A bit the operation does not use is 1 (R62, second case). -/
  | reservedBits (mnemonic : String)
  /-- `len` > 8 for RX_FRAME or SEND_ACCEPT (R62, third case). -/
  | lenOutOfRange (mnemonic : String) (len : BitVec 4)
deriving DecidableEq, Repr

/-- The transaction `i` if the word has the row's fixed bits. -/
def underRow (r : Row) (w : Word) (i : Instr) : Except DecodeError Instr :=
  if fixedBitsOk r w then .ok i else .error (.reservedBits r.mnemonic)

/-- As `underRow`, for a row whose `len` field has the bound of R62. -/
def underRowLen (r : Row) (w : Word) (i : Instr) : Except DecodeError Instr :=
  if fixedBitsOk r w then
    if lenInRange (lenField w) then .ok i else .error (.lenOutOfRange r.mnemonic (lenField w))
  else .error (.reservedBits r.mnemonic)

/-- The transaction a word spells, or why R62 refuses it. Total on all 2^128 words. -/
def decode (w : Word) : Except DecodeError Instr :=
  match (opField w).toNat with
  | 0x1 => underRow rowEncode w (.encode (deviceField w) (parameterField w) (subpacketField w))
  | 0x2 => underRow rowDecode w (.decode (idField w))
  | 0x3 => underRow rowFilter w (.filter (idField w))
  | 0x4 => underRow rowEvcode w (.evcode (idField w))
  | 0x5 => underRowLen rowRxFrame w (.rxFrame (idField w) (flagField w == 1#1) (lenField w) (dataField w))
  | 0x6 => underRow rowTxDone w .txDone
  | 0x7 => underRowLen rowSendAccept w (.sendAccept (idField w) (lenField w) (dataField w))
  | 0x8 => underRow rowSendIssue w (.sendIssue (resOfFlag (flagField w)))
  | 0x9 => underRow rowSendFinish w .sendFinish
  | 0xA => underRow rowPushTrig w (.pushTrig (trigField w))
  | 0xB => underRow rowPopTrig w .popTrig
  | 0xC => underRow rowPopCmd w .popCmd
  | 0xD => underRow rowStatus w .status
  | 0xF => underRow rowReset w .reset
  | _ => .error (.reservedOp (opField w))

/-! ### The encoder -/

/-- The 64 bits T[111:48] of eight data bytes, byte 0 lowest (R61). -/
def packData (d : Bytes8) : BitVec 64 :=
  d[7] ++ d[6] ++ d[5] ++ d[4] ++ d[3] ++ d[2] ++ d[1] ++ d[0]

/-- A word from its fields, the reserved bits 15:9 and 47:45 being 0 (R61). -/
def assemble (trig : Trig) (data : BitVec 64) (id : Id29) (flag : BitVec 1) (len op : BitVec 4) : Word :=
  trig ++ data ++ 0#3 ++ id ++ 0#7 ++ flag ++ len ++ op

/-- The word that spells a well-formed transaction (R61): every bit the operation does not use is 0. -/
def encode : Instr → Word
  | .encode d p b => assemble 0#16 0#64 (0#5 ++ d ++ p ++ b) 0#1 0#4 0x1#4
  | .decode id => assemble 0#16 0#64 id 0#1 0#4 0x2#4
  | .filter id => assemble 0#16 0#64 id 0#1 0#4 0x3#4
  | .evcode id => assemble 0#16 0#64 id 0#1 0#4 0x4#4
  | .rxFrame id rtr len data => assemble 0#16 (packData data) id (BitVec.ofBool rtr) len 0x5#4
  | .txDone => assemble 0#16 0#64 0#29 0#1 0#4 0x6#4
  | .sendAccept id len data => assemble 0#16 (packData data) id 0#1 len 0x7#4
  | .sendIssue res => assemble 0#16 0#64 0#29 (flagOfRes res) 0#4 0x8#4
  | .sendFinish => assemble 0#16 0#64 0#29 0#1 0#4 0x9#4
  | .pushTrig trig => assemble trig 0#64 0#29 0#1 0#4 0xA#4
  | .popTrig => assemble 0#16 0#64 0#29 0#1 0#4 0xB#4
  | .popCmd => assemble 0#16 0#64 0#29 0#1 0#4 0xC#4
  | .status => assemble 0#16 0#64 0#29 0#1 0#4 0xD#4
  | .reset => assemble 0#16 0#64 0#29 0#1 0#4 0xF#4

/-- The transaction word made of the `nbits` lowest bits of `w`, every bit above them 0. -/
def tableWord (nbits w : Nat) : Word := BitVec.ofNat 128 (w % 2 ^ nbits)

/-- What the decoder reads from a row of `nbits` bits: a transaction word is 128 bits (R63), so a longer row has none. -/
def decodeTableWord (nbits w : Nat) : Option Instr :=
  if nbits ≤ 128 then (decode (tableWord nbits w)).toOption else none

end Sys2Proof
end

