-- ==== Sys2Proof/Machine/State.lean ====
section
/-! DEFINITION. The state of the block (10_state.md R13 to R32) as plain data, with the model's own fields that say which
agent moves next, what it presents and what it is answered; the reasons a step can stop; the state after reset. -/

namespace Sys2Proof.Machine

/-- The agents of 00_scope.md R4, with the platform that 10_state.md R31 names as the issuer of RESET. -/
inductive Agent where
  /-- The event handler: it performs the events the link environment presents (R4, log 14). -/
  | eventHandler
  /-- The sequencer: it performs SEND_ISSUE and SEND_FINISH. -/
  | sequencer
  /-- The transmit client (Outbound Dispatcher). -/
  | txClient
  /-- The command client (Command Processor). -/
  | cmdClient
  /-- The link environment: it presents frames and completions. -/
  | linkEnv
  /-- The platform. -/
  | platform
deriving DecidableEq, Repr

/-- `st.seq` of 10_state.md R19. -/
inductive SeqState where
  | idle
  | issue
  | wait
deriving DecidableEq, Repr

/-- `CmdMsg` of 30_encoding.md R56: a record with no packed layout. -/
structure CmdMsg where
  device : Byte
  parameter : Byte
  subpacket : Byte
  length : Len
  payload : Bytes8
deriving DecidableEq, Repr

/-- The STATUS output record of 30_encoding.md R60. -/
structure StatusRecord where
  sendCount : Cnt
  errCount : Cnt
  tqDropCount : Cnt
  cqDropCount : Cnt
  tqLen : Nat
  cqLen : Nat
  seq : SeqState
deriving DecidableEq, Repr

/-- A frame handed to the link: `(id, data[0..len-1], len)` (30_encoding.md R59). -/
structure LinkFrame where
  id : Id29
  data : List Byte
  len : Len
deriving DecidableEq, Repr

/-- What a transaction gives the requesting agent (00_scope.md R10 `return v`), or that it holds or is refused (R11). -/
inductive Reply where
  /-- No transaction was taken. -/
  | nothing
  /-- The transaction holds: its agent has no enabled step (R10). -/
  | held
  /-- The transaction was refused (30_encoding.md R62). -/
  | refused
  /-- The transaction moved and has no output value. -/
  | done
  /-- An identifier: ENCODE, FILTER. -/
  | identifier (id : Id29)
  /-- A WireAddress: DECODE. -/
  | address (a : WireAddress)
  /-- An event code: EVCODE. -/
  | eventCode (c : Byte)
  /-- The client's `SendFrame` returns, with no value (41_tx_sequencer.md R76). -/
  | sendReturned
  /-- The accepted flag of PUSH_TRIG (43_queues.md R95). -/
  | accepted (ok : Bool)
  /-- The popped trigger (43_queues.md R96). -/
  | trigger (t : Trig)
  /-- The popped command message (43_queues.md R97). -/
  | command (m : CmdMsg)
  /-- The status record (43_queues.md R98). -/
  | status (r : StatusRecord)
deriving DecidableEq, Repr

/-- A transaction word together with the agent that issues it (10_state.md R31). -/
structure Request where
  agent : Agent
  word : Word
deriving DecidableEq, Repr

/-- The block raises no exception and has no fault outcome (00_scope.md R11, 60_exceptions.md R100), so nothing raises
a fault: the type has no constructor. Safe. -/
inductive Fault where
deriving DecidableEq, Repr

/-- Why the model would give no meaning. The spec's own refusal (30_encoding.md R62) is NOT one of these: it is a next
state in which `refused` is set. -/
inductive Refusal where
  /-- Raised by an arm of `exec` whose instruction has no meaning yet; no arm does so in this model. Safe. -/
  | notModelled (mnemonic : String)
deriving DecidableEq, Repr

structure State where
  /-- `st.rx_buf`, the receive scratch buffer (R15). -/
  rxBuf : Bytes8
  /-- `st.tq`, the trigger queue, head first (R16). -/
  tq : List Trig
  /-- `st.cq`, the command queue, head first (R17). -/
  cq : List CmdMsg
  /-- `st.permit`, the flow-control permit: `true` is 1 (R18). -/
  permit : Bool
  /-- `st.seq`, the sequencer state (R19). -/
  seq : SeqState
  /-- `st.tx_id`, the latched identifier (R20). -/
  txId : Id29
  /-- `st.tx_data`, the latched data (R20). -/
  txData : Bytes8
  /-- `st.tx_len`, the latched length (R20). -/
  txLen : Len
  /-- `st.send_count` (R21). -/
  sendCount : Cnt
  /-- `st.err_count` (R22). -/
  errCount : Cnt
  /-- `st.tq_drop_count` (R23). -/
  tqDropCount : Cnt
  /-- `st.cq_drop_count` (R24). -/
  cqDropCount : Cnt
  /-- `st.refused`, the whole-state refusal mark (R25). -/
  refused : Bool
  /-- The MODEL's: which agent moves next, soonest first (log 4). -/
  schedule : List Agent
  /-- The MODEL's: what the agents will present, each agent's words in its program order (log 3). -/
  inbox : List Request
  /-- The MODEL's: the transactions on hold (log 1). -/
  waiting : List Request
  /-- The MODEL's: the agent whose transaction is being taken, or was taken last (log 11). -/
  issuer : Agent
  /-- The MODEL's: the agent `reply` goes to (log 11, log 12). -/
  replyTo : Agent
  /-- The MODEL's: the output of the transaction taken last (log 11). -/
  reply : Reply
  /-- The MODEL's: the frames handed to the link, oldest first (log 11). -/
  linkOut : List LinkFrame
  /-- The MODEL's: how many draws were taken; the free values are applied to it (log 9). -/
  drawCount : Nat
deriving DecidableEq, Repr

/-- The block right after the platform's first RESET (10_state.md R32, 70_reset_and_hazards.md R116 step 2). The values
of `rxBuf`, `permit`, `txId`, `txData` and `txLen` are the model's (log 6), and so are those of the model's own fields. -/
def State.reset : State where
  rxBuf := #v[0, 0, 0, 0, 0, 0, 0, 0]
  tq := []
  cq := []
  permit := false
  seq := .idle
  txId := 0
  txData := #v[0, 0, 0, 0, 0, 0, 0, 0]
  txLen := 0
  sendCount := 0
  errCount := 0
  tqDropCount := 0
  cqDropCount := 0
  refused := false
  schedule := []
  inbox := []
  waiting := []
  issuer := .platform
  replyTo := .platform
  reply := .nothing
  linkOut := []
  drawCount := 0

end Sys2Proof.Machine
end

