-- ==== Sys2Proof/Machine/Flags.lean ====
section
/-! DEFINITION. The 1-bit values that steer the rules (10_state.md R27) and what each makes of a counter or the permit.
The block has no flag register. -/

namespace Sys2Proof.Machine

/-- `(c + 1) mod 2^32` (R21 to R24, 41_tx_sequencer.md R82). -/
def countUp (c : Cnt) : Cnt := c + 1

/-- A counter after the link's answer: only `FAIL` counts (41_tx_sequencer.md R75). -/
def countFail (res : LinkResult) (c : Cnt) : Cnt :=
  match res with
  | .ok => c
  | .fail => countUp c

/-- A drop counter after a push: only a push that was not accepted counts (42_router.md R84, 43_queues.md R95). -/
def countDrop (accepted : Bool) (c : Cnt) : Cnt := if accepted then c else countUp c

/-- The permit after a release: 1, whatever it was (R18, 41_tx_sequencer.md R77). -/
def permitReleased : Bool := true

/-- The permit after a discard or an acquire: 0 (20_memory.md R46). -/
def permitTaken : Bool := false

/-- The request flag marks a remote-read request (R27). -/
def isRemoteRead (rtr : Bool) : Bool := rtr

end Sys2Proof.Machine
end

