-- ==== Sys2Proof/Machine/Operands.lean ====
section
/-! DEFINITION. The operand forms: the identifier's fields (30_encoding.md R51 to R55), lengths and payload bytes (R38,
R58), the sequencer state as a number (R60), trigger words (R57). -/

namespace Sys2Proof.Machine

/-! ### The identifier -/

/-- `device` = id[23:16] (R51). -/
def idDevice (id : Id29) : Byte := id.extractLsb' 16 8

/-- `parameter` = id[15:8] (R51). -/
def idParameter (id : Id29) : Byte := id.extractLsb' 8 8

/-- `subpacket` = id[7:0], the sub-packet reading of the low byte (R51, R54). -/
def idSubpacket (id : Id29) : Byte := id.extractLsb' 0 8

/-- id[7:0], the event-code reading of the low byte (R54, 40_codec.md R69). -/
def idEventCode (id : Id29) : Byte := id.extractLsb' 0 8

/-- Field assembly (R52): bits 28:24 are 0 (R53). -/
def packAddress (a : WireAddress) : Id29 :=
  (a.device.setWidth 29 <<< 16) ||| (a.parameter.setWidth 29 <<< 8) ||| a.subpacket.setWidth 29

/-- The sub-packet reading of an identifier; bits 28:24 are ignored (R53, 40_codec.md R67). -/
def unpackAddress (id : Id29) : WireAddress := ⟨idDevice id, idParameter id, idSubpacket id⟩

/-- The message identifier: the low byte stripped by `P_FILTER_MESS` (R55, 40_codec.md R68). -/
def stripLowByte (id : Id29) : Id29 := id &&& Config.filterMess

/-! ### Lengths and payload bytes -/

/-- The `Len` a four-bit field spells, none for 9..15 (R62). -/
def lenOfField (len : BitVec 4) : Option Len :=
  if h : len.toNat < 9 then some ⟨len.toNat, h⟩ else none

/-- The byte the link presents at index `i`: the frame's own below `len`, a draw from there on (42_router.md R85, log 8). -/
def presentedByte (draw : Nat) (len : Len) (i : Nat) (b : Byte) : Byte :=
  if i < len.val then b else Config.unusedByte draw i b

/-- The eight bytes the link presents for a frame (42_router.md R85, 70_reset_and_hazards.md R121). -/
def presentedBytes (draw : Nat) (len : Len) (data : Bytes8) : Bytes8 :=
  #v[presentedByte draw len 0 data[0], presentedByte draw len 1 data[1],
     presentedByte draw len 2 data[2], presentedByte draw len 3 data[3],
     presentedByte draw len 4 data[4], presentedByte draw len 5 data[5],
     presentedByte draw len 6 data[6], presentedByte draw len 7 data[7]]

/-- The bytes of a payload that carry data: `data[0 .. len-1]` (R59). -/
def usedBytes (len : Len) (data : Bytes8) : List Byte := data.toList.take len.val

/-! ### The sequencer state as a number -/

/-- `seq` where a number is needed (R60). -/
def seqCode : SeqState → Nat
  | .idle => 0
  | .issue => 1
  | .wait => 2

/-! ### Trigger words -/

/-- The abstract trigger of R57. -/
inductive TrigView where
  /-- Kind 0x00: a device whose telemetry is to be emitted. -/
  | device (d : Byte)
  /-- Kind 0x01: an event code. -/
  | logEvent (c : Byte)
  /-- Kind 0x02 with argument 0x00. -/
  | answerReady
  /-- Every other word, opaque to the block (log 20). -/
  | other (t : Trig)
deriving DecidableEq, Repr

/-- `kind ++ arg` (R57). -/
def trigWord (kind arg : Byte) : Trig := kind ++ arg

/-- The `LOG_EVENT` trigger `0x01 ++ code` (R57). -/
def logTrigger (code : Byte) : Trig := trigWord 0x01 code

/-- The `DEVICE` trigger `0x00 ++ d`; the CONFIG trigger is the one of `P_CONFIG_ID` (R57). -/
def deviceTrigger (d : Byte) : Trig := trigWord 0x00 d

/-- The `ANSWER_READY` trigger (R57). -/
def answerTrigger : Trig := trigWord 0x02 0x00

/-- What a trigger word stands for (R57). The block itself never reads a word this way. -/
def viewTrigger (t : Trig) : TrigView :=
  let kind : Byte := t.extractLsb' 8 8
  let arg : Byte := t.extractLsb' 0 8
  if kind = 0x00 then .device arg
  else if kind = 0x01 then .logEvent arg
  else if t = answerTrigger then .answerReady
  else .other t

end Sys2Proof.Machine
end

