-- ==== Sys2Proof/Machine/Ops.lean ====
section
/-! DEFINITION. The named operations the meanings are made of. The block raises no exception and takes no trap
(60_exceptions.md R100), so there is no exception entry and no return from one: the three outcomes of 00_scope.md R11 are
`State.answer` (a next state), `State.hold` and `State.refuse`. -/

namespace Sys2Proof.Machine

/-! ### Outcomes -/

/-- The transaction moved and gives `r` to its issuer (00_scope.md R10). -/
def State.answer (r : Reply) (s : State) : State := { s with reply := r }

/-- The transaction moved and gives `r` to the agent `a`. -/
def State.answerTo (a : Agent) (r : Reply) (s : State) : State := { s with replyTo := a, reply := r }

/-- The transaction holds: the block is unchanged (00_scope.md R10, log 1). -/
def State.hold (s : State) : State := { s with reply := .held }

/-- The transaction is refused: the block is unchanged but for the mark (30_encoding.md R62). -/
def State.refuse (s : State) : State := { s with refused := true, reply := .refused }

/-- The meaning of a transaction only agent `a` may issue: any other issuer is refused (10_state.md R31, R62). -/
def onlyFrom (a : Agent) (act : State → State) (s : State) : State :=
  if s.issuer = a then act s else s.refuse

/-! ### The queues -/

/-- `Push(q, v)` of 43_queues.md R93: the queue after it and whether it took the item. -/
def push {α : Type} (depth : Nat) (q : List α) (v : α) : List α × Bool :=
  if q.length < depth then (q ++ [v], true) else (q, false)

/-- `Pop(q)` of 43_queues.md R94: the head and the rest, none where the queue is empty and the agent holds. -/
def pop {α : Type} : List α → Option (α × List α)
  | [] => none
  | v :: q => some (v, q)

/-- Whether a push of a trigger would be accepted (R93). -/
def State.tqAccepts (s : State) : Bool := decide (s.tq.length < Config.tqDepth)

/-- Push a trigger and count it if it is dropped (42_router.md R84, R90; 43_queues.md R95). -/
def State.pushTrigger (t : Trig) (s : State) : State :=
  { s with tq := (push Config.tqDepth s.tq t).1
           tqDropCount := countDrop (push Config.tqDepth s.tq t).2 s.tqDropCount }

/-- Push a command message and count it if it is dropped (42_router.md R84, R90). -/
def State.pushCommand (m : CmdMsg) (s : State) : State :=
  { s with cq := (push Config.cqDepth s.cq m).1
           cqDropCount := countDrop (push Config.cqDepth s.cq m).2 s.cqDropCount }

/-- Take the oldest trigger, or hold on an empty queue (43_queues.md R94, R96). -/
def State.popTrigger (s : State) : State :=
  match pop s.tq with
  | none => s.hold
  | some (t, q) => { s with tq := q, reply := .trigger t }

/-- Take the oldest command message, or hold on an empty queue (43_queues.md R94, R97). -/
def State.popCommand (s : State) : State :=
  match pop s.cq with
  | none => s.hold
  | some (m, q) => { s with cq := q, reply := .command m }

/-- The status record (43_queues.md R98, 30_encoding.md R60). -/
def State.statusRecord (s : State) : StatusRecord where
  sendCount := s.sendCount
  errCount := s.errCount
  tqDropCount := s.tqDropCount
  cqDropCount := s.cqDropCount
  tqLen := s.tq.length
  cqLen := s.cq.length
  seq := s.seq

/-! ### The permit and the sequencer -/

/-- Release: `st.permit <- 1` (20_memory.md R46, 41_tx_sequencer.md R77). -/
def State.releasePermit (s : State) : State := { s with permit := permitReleased }

/-- Accept a request: discard the permit and latch the operands (41_tx_sequencer.md R74). -/
def State.acceptRequest (id : Id29) (len : Len) (data : Bytes8) (s : State) : State :=
  { s with permit := permitTaken, txId := id, txLen := len, txData := data, seq := .issue }

/-- The frame the latch holds, as the link receives it (30_encoding.md R59, 10_state.md R20). -/
def State.latchedFrame (s : State) : LinkFrame := ⟨s.txId, usedBytes s.txLen s.txData, s.txLen⟩

/-- Hand the latched frame to the link, which answers `res`, and count it (41_tx_sequencer.md R75). -/
def State.issueFrame (res : LinkResult) (s : State) : State :=
  { s with linkOut := s.linkOut ++ [s.latchedFrame]
           sendCount := countUp s.sendCount
           errCount := countFail res s.errCount
           seq := .wait }

/-- Acquire the permit and end the request (20_memory.md R46, 41_tx_sequencer.md R76). -/
def State.endRequest (s : State) : State := { s with permit := permitTaken, seq := .idle }

/-! ### The router -/

/-- `st.rx_buf <- data`, all eight presented bytes (42_router.md R84, R85). -/
def State.latchScratch (len : Len) (data : Bytes8) (s : State) : State :=
  { s with rxBuf := presentedBytes s.drawCount len data, drawCount := s.drawCount + 1 }

/-- The command message built from the decoded address and the scratch payload (42_router.md R88). -/
def State.commandFor (id : Id29) (len : Len) (s : State) : CmdMsg where
  device := (unpackAddress id).device
  parameter := (unpackAddress id).parameter
  subpacket := (unpackAddress id).subpacket
  length := len
  payload := s.rxBuf

/-- The branches after the LOG branch: CONFIG remote read, then command, then nothing (42_router.md R87 to R89). -/
def routeOther (p : Config.Params) (id : Id29) (rtr : Bool) (len : Len) (s : State) : State :=
  if idDevice id = p.configId ∧ isRemoteRead rtr = true then s.pushTrigger (deviceTrigger p.configId)
  else if idDevice id ≠ 0 then s.pushCommand (s.commandFor id len)
  else s

/-- One received frame through the whole router, for any value of the OPEN parameters (42_router.md R84, 00_scope.md R7). -/
def routeFrame (p : Config.Params) (id : Id29) (rtr : Bool) (len : Len) (data : Bytes8) (s : State) : State :=
  let s₁ := s.latchScratch len data
  if idDevice id = p.logId then
    let s₂ := s₁.pushTrigger (logTrigger (idEventCode id))
    if p.logFallthrough then routeOther p id rtr len s₂ else s₂
  else routeOther p id rtr len s₁

/-! ### Reset -/

/-- The block after the RESET transaction (70_reset_and_hazards.md R114): a draw for the permit and a free value for
each element left unwritten (log 7); `refused` stays (10_state.md R25); every agent is restarted, so nothing waits (R115, log 10). -/
def State.resetBlock (s : State) : State :=
  { s with tq := []
           cq := []
           permit := Config.resetPermit s.drawCount
           seq := .idle
           sendCount := 0
           errCount := 0
           tqDropCount := 0
           cqDropCount := 0
           rxBuf := Config.resetRxBuf s.drawCount
           txId := Config.resetTxId s.drawCount
           txData := Config.resetTxData s.drawCount
           txLen := Config.resetTxLen s.drawCount
           waiting := []
           drawCount := s.drawCount + 1 }

/-! ### Which transaction is taken next -/

/-- Agent `a` is scheduled: no output yet, and what follows is its transaction's (00_scope.md R4). -/
def State.begin (a : Agent) (rest : List Agent) (s : State) : State :=
  { s with schedule := rest, issuer := a, replyTo := a, reply := .nothing }

/-- The transaction agent `a` presents: the one it waits in, else its next of the inbox; taken off its list (log 1, log 3). -/
def State.takeRequest (a : Agent) (s : State) : Option (Request × State) :=
  match s.waiting.find? (fun r => r.agent = a) with
  | some r => some (r, { s with waiting := s.waiting.eraseP (fun r => r.agent = a) })
  | none =>
    match s.inbox.find? (fun r => r.agent = a) with
    | some r => some (r, { s with inbox := s.inbox.eraseP (fun r => r.agent = a) })
    | none => none

/-- Whether a transaction holds. -/
def Reply.isHeld (r : Reply) : Bool := decide (r = .held)

/-- Whether the issuer is the transmit client inside its request: from SEND_ACCEPT to SEND_FINISH, or to a RESET, which
is when the sequencer is not `IDLE` (41_tx_sequencer.md R74, 10_state.md R19, log 13). The sequencer on hold in `WAIT` is
not counted: that it may still take a STATUS or a codec operation is the model's choice (log 24). -/
def State.insideRequest (s : State) : Bool := decide (s.issuer = .txClient) && decide (s.seq ≠ .idle)

/-- Whether a transaction is a codec operation: a pure function any agent may evaluate (00_scope.md R4), which never holds
(40_codec.md R73). -/
def isCodec : Instr → Bool
  | .encode _ _ _ => true
  | .decode _ => true
  | .filter _ => true
  | .evcode _ => true
  | .rxFrame _ _ _ _ => false
  | .txDone => false
  | .sendAccept _ _ _ => false
  | .sendIssue _ => false
  | .sendFinish => false
  | .pushTrig _ => false
  | .popTrig => false
  | .popCmd => false
  | .status => false
  | .reset => false

/-- Whether a transaction is refused. -/
def Reply.isRefused (r : Reply) : Bool := decide (r = .refused)

/-- `t` being what the transaction `i` makes of `s`: the transmit client inside its request is blocked, so the transaction
holds (41_tx_sequencer.md R74, 00_scope.md R10), unless it is a codec operation (40_codec.md R73, log 13) or one that
30_encoding.md R62 refuses in any state (log 17). -/
def State.heldBack (i : Instr) (s t : State) : State :=
  if s.insideRequest && !isCodec i && !t.reply.isRefused then s.hold else t

/-- After the transaction `r`: if it holds, its agent waits in it (00_scope.md R10, log 1). -/
def State.settle (r : Request) (s : State) : State :=
  if s.reply.isHeld then { s with waiting := s.waiting ++ [r] } else s

/-- An agent that may issue the word, for a word placed by hand (10_state.md R31, log 15): where any may, the command
client, which is never inside a request (60_exceptions.md R111). -/
def issuerFor (w : Word) : Agent :=
  match (opField w).toNat with
  | 0x5 | 0x6 => .linkEnv
  | 0x7 | 0xB => .txClient
  | 0x8 | 0x9 => .sequencer
  | 0xF => .platform
  | _ => .cmdClient

/-- The word placed as the very next transaction: its agent is scheduled next, waits in nothing, and presents it first (log 15). -/
def State.placeNext (w : Word) (s : State) : State :=
  { s with schedule := issuerFor w :: s.schedule
           inbox := ⟨issuerFor w, w⟩ :: s.inbox
           waiting := s.waiting.filter (fun r => r.agent ≠ issuerFor w) }

end Sys2Proof.Machine
end

