-- ==== Sys2Proof/Machine/Codec.lean ====
section
/-! DEFINITION. The address codec, 40_codec.md: any agent may issue these, and they write no state. -/

namespace Sys2Proof.Machine

/-- ENCODE (R66). -/
def execEncode (device parameter subpacket : Byte) (s : State) : Host.Outcome State Fault Refusal :=
  .next (s.answer (.identifier (packAddress ⟨device, parameter, subpacket⟩)))

/-- DECODE (R67). -/
def execDecode (id : Id29) (s : State) : Host.Outcome State Fault Refusal :=
  .next (s.answer (.address (unpackAddress id)))

/-- FILTER (R68). -/
def execFilter (id : Id29) (s : State) : Host.Outcome State Fault Refusal :=
  .next (s.answer (.identifier (stripLowByte id)))

/-- EVCODE (R69). -/
def execEvcode (id : Id29) (s : State) : Host.Outcome State Fault Refusal :=
  .next (s.answer (.eventCode (idEventCode id)))

end Sys2Proof.Machine
end

