-- ==== Sys2Proof/Machine/Control.lean ====
section
/-! DEFINITION. RESET, 70_reset_and_hazards.md. -/

namespace Sys2Proof.Machine

/-- RESET (R114): from the platform only, in any state (R115). -/
def execReset (s : State) : Host.Outcome State Fault Refusal :=
  .next (onlyFrom .platform (fun s => s.resetBlock.answer .done) s)

end Sys2Proof.Machine
end

