-- ==== Sys2Proof/Machine/Queues.lean ====
section
/-! DEFINITION. The queue ports and the status port, 43_queues.md. -/

namespace Sys2Proof.Machine

/-- PUSH_TRIG (R95): from the command client only; returns the accepted flag. -/
def execPushTrig (trig : Trig) (s : State) : Host.Outcome State Fault Refusal :=
  .next (onlyFrom .cmdClient (fun s => (s.pushTrigger trig).answer (.accepted s.tqAccepts)) s)

/-- POP_TRIG (R96): from the transmit client only; holds on an empty queue. -/
def execPopTrig (s : State) : Host.Outcome State Fault Refusal :=
  .next (onlyFrom .txClient State.popTrigger s)

/-- POP_CMD (R97): from the command client only; holds on an empty queue. -/
def execPopCmd (s : State) : Host.Outcome State Fault Refusal :=
  .next (onlyFrom .cmdClient State.popCommand s)

/-- STATUS (R98): from any agent; nothing is written and nothing cleared. -/
def execStatus (s : State) : Host.Outcome State Fault Refusal :=
  .next (s.answer (.status s.statusRecord))

end Sys2Proof.Machine
end

