-- ==== Sys2Proof/Machine/Router.lean ====
section
/-! DEFINITION. The inbound frame router, 42_router.md. -/

namespace Sys2Proof.Machine

/-- RX_FRAME (R84): from the link environment only; a `len` of 9..15 is refused (30_encoding.md R62). -/
def execRxFrame (id : Id29) (rtr : Bool) (len : BitVec 4) (data : Bytes8) (s : State) :
    Host.Outcome State Fault Refusal :=
  .next (onlyFrom .linkEnv (fun s =>
    match lenOfField len with
    | none => s.refuse
    | some l => (routeFrame Config.params id rtr l data s).answer .done) s)

end Sys2Proof.Machine
end

