-- ==== Sys2Proof/Machine/Sequencer.lean ====
section
/-! DEFINITION. The transmit flow-control sequencer, 41_tx_sequencer.md. -/

namespace Sys2Proof.Machine

/-- TX_DONE (R77): from the link environment only, in any state. -/
def execTxDone (s : State) : Host.Outcome State Fault Refusal :=
  .next (onlyFrom .linkEnv (fun s => s.releasePermit.answer .done) s)

/-- SEND_ACCEPT (R74): from the transmit client only; holds unless `IDLE`; a `len` of 9..15 is refused (30_encoding.md R62). -/
def execSendAccept (id : Id29) (len : BitVec 4) (data : Bytes8) (s : State) : Host.Outcome State Fault Refusal :=
  .next (onlyFrom .txClient (fun s =>
    match lenOfField len with
    | none => s.refuse
    | some l => if s.seq = .idle then (s.acceptRequest id l data).answer .done else s.hold) s)

/-- SEND_ISSUE (R75): the sequencer's own step; holds unless `ISSUE`. -/
def execSendIssue (res : LinkResult) (s : State) : Host.Outcome State Fault Refusal :=
  .next (onlyFrom .sequencer (fun s =>
    if s.seq = .issue then (s.issueFrame res).answer .done else s.hold) s)

/-- SEND_FINISH (R76): the sequencer's own step; holds unless `WAIT` with a permit; the transmit client's request returns. -/
def execSendFinish (s : State) : Host.Outcome State Fault Refusal :=
  .next (onlyFrom .sequencer (fun s =>
    if s.seq = .wait ∧ s.permit = true then s.endRequest.answerTo .txClient .sendReturned else s.hold) s)

end Sys2Proof.Machine
end

