-- ==== Sys2Proof/Machine/Dispatch.lean ====
section
/-! DEFINITION. One arm per transaction. -/

namespace Sys2Proof.Machine

def exec (i : Instr) (s : State) : Host.Outcome State Fault Refusal :=
  match i with
  | .encode d p b => Sys2Proof.Machine.execEncode d p b s
  | .decode id => Sys2Proof.Machine.execDecode id s
  | .filter id => Sys2Proof.Machine.execFilter id s
  | .evcode id => Sys2Proof.Machine.execEvcode id s
  | .rxFrame id rtr len data => Sys2Proof.Machine.execRxFrame id rtr len data s
  | .txDone => Sys2Proof.Machine.execTxDone s
  | .sendAccept id len data => Sys2Proof.Machine.execSendAccept id len data s
  | .sendIssue res => Sys2Proof.Machine.execSendIssue res s
  | .sendFinish => Sys2Proof.Machine.execSendFinish s
  | .pushTrig trig => Sys2Proof.Machine.execPushTrig trig s
  | .popTrig => Sys2Proof.Machine.execPopTrig s
  | .popCmd => Sys2Proof.Machine.execPopCmd s
  | .status => Sys2Proof.Machine.execStatus s
  | .reset => Sys2Proof.Machine.execReset s

end Sys2Proof.Machine
end

