-- ==== Sys2Proof/Machine/Turn.lean ====
section
/-! DEFINITION. One agent's turn: the transaction it presents, the hold of the client inside its request, and what the
block makes of a transaction word. -/

namespace Sys2Proof.Machine

/-- The transaction `i` of the agent `s.issuer`: its meaning, held back from the transmit client inside its request
(41_tx_sequencer.md R74, log 13) where it is no codec operation (40_codec.md R73). -/
def issue (i : Instr) (s : State) : Host.Outcome State Fault Refusal :=
  match exec i s with
  | .next t => .next (s.heldBack i t)
  | .fault f => .fault f
  | .refused c => .refused c

/-- What the block makes of the transaction `r`, `s` being the state with `r` taken off its list: a word R62 refuses for
its bits is refused, any other is issued, and a transaction that holds waits (log 1, log 2). -/
def perform (r : Request) (s : State) : Host.Outcome State Fault Refusal :=
  match decode r.word with
  | .error _ => .next s.refuse
  | .ok i =>
    match issue i s with
    | .next t => .next (t.settle r)
    | .fault f => .fault f
    | .refused c => .refused c

end Sys2Proof.Machine
end

