-- ==== Sys2Proof/Machine/Step.lean ====
section
/-! DEFINITION. One step: the next scheduled agent presents its transaction and the block takes it. The block fetches no
instruction and has no program counter (20_memory.md R49, 10_state.md R13). -/

namespace Sys2Proof.Machine

/-- One step (00_scope.md R4, R11). Where no agent is scheduled, or the scheduled one presents nothing, the block waits (log 18). -/
def step (s : State) : Host.Outcome State Fault Refusal :=
  match s.schedule with
  | [] => .next (s.answer .nothing)
  | a :: rest =>
    match (s.begin a rest).takeRequest a with
    | none => .next (s.begin a rest)
    | some (r, t) => perform r t

/-- `s` with the transaction word of the `nbits` lowest bits of `w` as the very next transaction (log 3, log 15). -/
def State.withFetchWord (s : State) (nbits w : Nat) : State := s.placeNext (tableWord nbits w)

end Sys2Proof.Machine
end

