-- ==== Sys2Proof/Safety.lean ====
section
/-! DEFINITION. What a safe run is, in the terms the statements use: the spec's own state elements apart from the
model's, the invariant of every step, runs of transactions, what a run pushes, pops and hands to the link, the
well-behaved link premise of 41_tx_sequencer.md R79, and the end of a run (70_reset_and_hazards.md R126). -/

namespace Sys2Proof.Safety

open Sys2Proof.Machine

/-! ### The block and the invariant -/

/-- The state elements of 10_state.md R13, without the model's own fields. -/
structure Block where
  rxBuf : Bytes8
  tq : List Trig
  cq : List CmdMsg
  permit : Bool
  seq : SeqState
  txId : Id29
  txData : Bytes8
  txLen : Len
  sendCount : Cnt
  errCount : Cnt
  tqDropCount : Cnt
  cqDropCount : Cnt
  refused : Bool
deriving DecidableEq, Repr

/-- The block of a state. -/
def blockOf (s : State) : Block where
  rxBuf := s.rxBuf
  tq := s.tq
  cq := s.cq
  permit := s.permit
  seq := s.seq
  txId := s.txId
  txData := s.txData
  txLen := s.txLen
  sendCount := s.sendCount
  errCount := s.errCount
  tqDropCount := s.tqDropCount
  cqDropCount := s.cqDropCount
  refused := s.refused

/-- The occupancy bounds of 43_queues.md R99. -/
def QueuesBounded (s : State) : Prop := s.tq.length ≤ Config.tqDepth ∧ s.cq.length ≤ Config.cqDepth

/-- An agent waits in at most one transaction (00_scope.md R10). -/
def OneWaitEach (s : State) : Prop := (s.waiting.map Request.agent).Nodup

/-- The invariant every step keeps. -/
def Invariant (s : State) : Prop := QueuesBounded s ∧ OneWaitEach s

/-! ### Who may issue what -/

/-- The agents 10_state.md R31 allows to issue a transaction, written out from the rule. -/
def allowed : Instr → List Agent
  | .rxFrame _ _ _ _ => [.linkEnv]
  | .txDone => [.linkEnv]
  | .sendAccept _ _ _ => [.txClient]
  | .popTrig => [.txClient]
  | .popCmd => [.cmdClient]
  | .pushTrig _ => [.cmdClient]
  | .sendIssue _ => [.sequencer]
  | .sendFinish => [.sequencer]
  | .reset => [.platform]
  | .encode _ _ _ => [.eventHandler, .sequencer, .txClient, .cmdClient, .linkEnv, .platform]
  | .decode _ => [.eventHandler, .sequencer, .txClient, .cmdClient, .linkEnv, .platform]
  | .filter _ => [.eventHandler, .sequencer, .txClient, .cmdClient, .linkEnv, .platform]
  | .evcode _ => [.eventHandler, .sequencer, .txClient, .cmdClient, .linkEnv, .platform]
  | .status => [.eventHandler, .sequencer, .txClient, .cmdClient, .linkEnv, .platform]

/-- The states in which a transaction holds: the three kinds of wait of 60_exceptions.md R113 and the sequencer's own
guards (41_tx_sequencer.md R75, R76). -/
def Blocked (i : Instr) (s : State) : Prop :=
  match i with
  | .sendAccept _ _ _ => s.seq ≠ .idle
  | .sendIssue _ => s.seq ≠ .issue
  | .sendFinish => ¬(s.seq = .wait ∧ s.permit = true)
  | .popTrig => s.tq = []
  | .popCmd => s.cq = []
  | .encode _ _ _ => False
  | .decode _ => False
  | .filter _ => False
  | .evcode _ => False
  | .rxFrame _ _ _ _ => False
  | .txDone => False
  | .pushTrig _ => False
  | .status => False
  | .reset => False

/-! ### What may change -/

/-- The block `b` with every element a transaction may write taken from `c` (the "written by" column of 10_state.md R13;
for RESET the elements of 70_reset_and_hazards.md R114; the mark wherever R62 can refuse the transaction). -/
def onlyChanges (i : Instr) (b c : Block) : Block :=
  match i with
  | .encode _ _ _ => b
  | .decode _ => b
  | .filter _ => b
  | .evcode _ => b
  | .rxFrame _ _ _ _ =>
    { b with rxBuf := c.rxBuf, tq := c.tq, cq := c.cq, tqDropCount := c.tqDropCount
             cqDropCount := c.cqDropCount, refused := c.refused }
  | .txDone => { b with permit := c.permit, refused := c.refused }
  | .sendAccept _ _ _ =>
    { b with permit := c.permit, seq := c.seq, txId := c.txId, txData := c.txData, txLen := c.txLen
             refused := c.refused }
  | .sendIssue _ =>
    { b with seq := c.seq, sendCount := c.sendCount, errCount := c.errCount, refused := c.refused }
  | .sendFinish => { b with permit := c.permit, seq := c.seq, refused := c.refused }
  | .pushTrig _ => { b with tq := c.tq, tqDropCount := c.tqDropCount, refused := c.refused }
  | .popTrig => { b with tq := c.tq, refused := c.refused }
  | .popCmd => { b with cq := c.cq, refused := c.refused }
  | .status => b
  | .reset => c

/-! ### Words as numbers -/

/-- The value of a transaction's word, each field at the place 30_encoding.md R61 gives it and every other bit 0. -/
def wordValue : Instr → Nat
  | .encode d p b => 0x1 + b.toNat * 2 ^ 16 + p.toNat * 2 ^ 24 + d.toNat * 2 ^ 32
  | .decode id => 0x2 + id.toNat * 2 ^ 16
  | .filter id => 0x3 + id.toNat * 2 ^ 16
  | .evcode id => 0x4 + id.toNat * 2 ^ 16
  | .rxFrame id rtr len data => 0x5 + len.toNat * 2 ^ 4 + rtr.toNat * 2 ^ 8 + id.toNat * 2 ^ 16 + dataValue data
  | .txDone => 0x6
  | .sendAccept id len data => 0x7 + len.toNat * 2 ^ 4 + id.toNat * 2 ^ 16 + dataValue data
  | .sendIssue .ok => 0x8
  | .sendIssue .fail => 0x8 + 2 ^ 8
  | .sendFinish => 0x9
  | .pushTrig t => 0xA + t.toNat * 2 ^ 112
  | .popTrig => 0xB
  | .popCmd => 0xC
  | .status => 0xD
  | .reset => 0xF
where
  /-- Data byte `i` at bit `48 + 8i`. -/
  dataValue (d : Bytes8) : Nat :=
    d[0].toNat * 2 ^ 48 + d[1].toNat * 2 ^ 56 + d[2].toNat * 2 ^ 64 + d[3].toNat * 2 ^ 72 +
    d[4].toNat * 2 ^ 80 + d[5].toNat * 2 ^ 88 + d[6].toNat * 2 ^ 96 + d[7].toNat * 2 ^ 104

/-! ### Runs of transactions -/

/-- One agent's turn: the agent and the transaction it issues. -/
abbrev Turn := Agent × Instr

/-- The state after a turn: a transmit client inside its request holds. -/
def take (e : Turn) (s : State) : State :=
  match issue e.2 { s with issuer := e.1, replyTo := e.1, reply := .nothing } with
  | .next t => t
  | .fault _ => s
  | .refused _ => s

/-- The state after a run: any interleaving of the agents is a list of turns (00_scope.md R4, R5). -/
def runTurns : List Turn → State → State
  | [], s => s
  | e :: es, s => runTurns es (take e s)

/-- No turn of the run is a RESET of the platform: claims are made from the last RESET onwards (70_reset_and_hazards.md R115). -/
def NoReset (es : List Turn) : Prop := ∀ e ∈ es, e ≠ (.platform, .reset)

/-- No turn of the run is a completion of the link. -/
def NoCompletion (es : List Turn) : Prop := ∀ e ∈ es, e ≠ (.linkEnv, .txDone)

/-! ### What a run pushes and pops -/

/-- The trigger words a turn tries to push, in order (42_router.md R84, R86, R87, R92; 43_queues.md R95). -/
def offeredTriggers (p : Config.Params) : Turn → List Trig
  | (.cmdClient, .pushTrig t) => [t]
  | (.linkEnv, .rxFrame id rtr len _) =>
    if lenInRange len then
      (if idDevice id = p.logId then [0x01#8 ++ id.extractLsb' 0 8] else []) ++
      (if idDevice id = p.configId ∧ rtr = true ∧ (idDevice id = p.logId → p.logFallthrough = true)
       then [0x00#8 ++ p.configId] else [])
    else []
  | _ => []

/-- Whether a received frame reaches the command branch (42_router.md R86 to R89). -/
abbrev reachesCommand (p : Config.Params) (id : Id29) (rtr : Bool) : Prop :=
  idDevice id ≠ 0 ∧ ¬(idDevice id = p.configId ∧ rtr = true) ∧ (idDevice id = p.logId → p.logFallthrough = true)

/-- The command messages a turn tries to push; the payload is the scratch buffer after the frame was read (42_router.md R88). -/
def offeredCommands (p : Config.Params) (e : Turn) (s : State) : List CmdMsg :=
  match e with
  | (.linkEnv, .rxFrame id rtr len _) =>
    if reachesCommand p id rtr then
      match lenOfField len with
      | some l => [⟨id.extractLsb' 16 8, id.extractLsb' 8 8, id.extractLsb' 0 8, l, (take e s).rxBuf⟩]
      | none => []
    else []
  | _ => []

/-- Of the items offered, those a queue of this depth takes when it holds `n` (43_queues.md R93). -/
def fitting {α : Type} (depth n : Nat) (offered : List α) : List α := offered.take (depth - n)

/-- The triggers a run pushes with success, in order. -/
def pushedTriggers (p : Config.Params) : List Turn → State → List Trig
  | [], _ => []
  | e :: es, s => fitting Config.tqDepth s.tq.length (offeredTriggers p e) ++ pushedTriggers p es (take e s)

/-- The command messages a run pushes with success, in order. -/
def pushedCommands (p : Config.Params) : List Turn → State → List CmdMsg
  | [], _ => []
  | e :: es, s => fitting Config.cqDepth s.cq.length (offeredCommands p e s) ++ pushedCommands p es (take e s)

/-- The triggers a run tries to push, in order. -/
def allOfferedTriggers (p : Config.Params) : List Turn → List Trig
  | [] => []
  | e :: es => offeredTriggers p e ++ allOfferedTriggers p es

/-- The command messages a run tries to push, in order. -/
def allOfferedCommands (p : Config.Params) : List Turn → State → List CmdMsg
  | [], _ => []
  | e :: es, s => offeredCommands p e s ++ allOfferedCommands p es (take e s)

/-- The trigger a reply gives, if it gives one. -/
def triggerOf : Reply → List Trig
  | .trigger t => [t]
  | _ => []

/-- The command message a reply gives, if it gives one. -/
def commandOf : Reply → List CmdMsg
  | .command m => [m]
  | _ => []

/-- The triggers a run gives to the transmit client, in order. -/
def poppedTriggers : List Turn → State → List Trig
  | [], _ => []
  | e :: es, s => triggerOf (take e s).reply ++ poppedTriggers es (take e s)

/-- The command messages a run gives to the command client, in order. -/
def poppedCommands : List Turn → State → List CmdMsg
  | [], _ => []
  | e :: es, s => commandOf (take e s).reply ++ poppedCommands es (take e s)

/-! ### What a run hands to the link -/

/-- The frame of the request a turn accepts, if it accepts one (41_tx_sequencer.md R74). -/
def acceptedFrame (e : Turn) (s : State) : List LinkFrame :=
  match e with
  | (.txClient, .sendAccept id len data) =>
    match s.seq, lenOfField len with
    | .idle, some l => [⟨id, data.toList.take l.val, l⟩]
    | _, _ => []
  | _ => []

/-- The frames of the requests a run accepts, in order. -/
def acceptedFrames : List Turn → State → List LinkFrame
  | [], _ => []
  | e :: es, s => acceptedFrame e s ++ acceptedFrames es (take e s)

/-- The frame of an accepted request not yet handed over. -/
def inLatch (s : State) : List LinkFrame :=
  match s.seq with
  | .issue => [s.latchedFrame]
  | .idle => []
  | .wait => []

/-- How many frames the link was handed, how many of them it answered OK and FAIL, and how many completions it raised. -/
structure LinkTally where
  handed : Nat
  handedOk : Nat
  failed : Nat
  completed : Nat
deriving DecidableEq, Repr

/-- Nothing handed and nothing completed. -/
def LinkTally.zero : LinkTally := ⟨0, 0, 0, 0⟩

/-- The tally after the link was handed a frame and answered `res`. -/
def LinkTally.hand (res : LinkResult) (k : LinkTally) : LinkTally :=
  match res with
  | .ok => { k with handed := k.handed + 1, handedOk := k.handedOk + 1 }
  | .fail => { k with handed := k.handed + 1, failed := k.failed + 1 }

/-- The tally after a turn taken in the state `s`. -/
def LinkTally.after (e : Turn) (s : State) (k : LinkTally) : LinkTally :=
  match e with
  | (.sequencer, .sendIssue res) =>
    match s.seq with
    | .issue => k.hand res
    | .idle => k
    | .wait => k
  | (.linkEnv, .txDone) => { k with completed := k.completed + 1 }
  | _ => k

/-- The tally after a run. -/
def tallyRun : List Turn → State → LinkTally → LinkTally
  | [], _, k => k
  | e :: es, s, k => tallyRun es (take e s) (k.after e s)

/-- The well-behaved link premise of 41_tx_sequencer.md R79 in counts: a completion is raised only while some frame handed
over and answered OK has had none. Premises (a) to (c) of the rule give it (log 21). -/
def WellBehavedLink : List Turn → State → LinkTally → Prop
  | [], _, _ => True
  | e :: es, s, k =>
    (e = (.linkEnv, .txDone) → k.completed < k.handedOk) ∧ WellBehavedLink es (take e s) (k.after e s)

/-! ### The end of a run -/

/-- A client is held on an empty queue or has stopped issuing (70_reset_and_hazards.md R126, log 22). -/
def clientAtRest (a : Agent) (s : State) : Bool :=
  match s.waiting.find? (fun r => r.agent = a) with
  | some r =>
    (decide (a = .txClient) && decide (decode r.word = .ok .popTrig) && s.tq.isEmpty) ||
    (decide (a = .cmdClient) && decide (decode r.word = .ok .popCmd) && s.cq.isEmpty)
  | none => (s.inbox.find? (fun r => r.agent = a)).isNone

/-- The run is quiescent (R126). -/
def Quiescent (s : State) : Prop :=
  s.seq = .idle ∧ clientAtRest .txClient s = true ∧ clientAtRest .cmdClient s = true

/-- The run is final (R126). -/
def Final (s : State) : Prop := Quiescent s ∧ s.refused = false

end Sys2Proof.Safety
end

