-- ==== Sys2Proof/Certificates/Slice0/Obligations.lean ====
section
/-! DEFINITION. The statements for the provers. Each says which rule of spec/ it formalises. A next state written
`{ s with … }` names every field that changes: every other field, the model's own among them, is as before. -/

open Sys2Proof Sys2Proof.Machine Sys2Proof.Safety

/-! ### The address codec -/

/-- 40_codec.md R66: ENCODE, from any agent, in any state. -/
def Obligations.EncodePacksTheThreeFields : Prop :=
  ∀ (d p b : Byte) (s : State), ∃ id : Id29,
    exec (.encode d p b) s = .next { s with reply := .identifier id } ∧
    id.toNat = d.toNat * 2 ^ 16 + p.toNat * 2 ^ 8 + b.toNat

/-- 40_codec.md R67: DECODE, from any agent, in any state; bits 28:24 do not enter (30_encoding.md R53). -/
def Obligations.DecodeSplitsTheLow24Bits : Prop :=
  ∀ (id : Id29) (s : State), ∃ a : WireAddress,
    exec (.decode id) s = .next { s with reply := .address a } ∧
    a.device.toNat = id.toNat / 2 ^ 16 % 2 ^ 8 ∧ a.parameter.toNat = id.toNat / 2 ^ 8 % 2 ^ 8 ∧
    a.subpacket.toNat = id.toNat % 2 ^ 8

/-- 40_codec.md R68: FILTER, from any agent, in any state; bits 28:8 are kept. -/
def Obligations.FilterClearsTheLowByteOnly : Prop :=
  ∀ (id : Id29) (s : State), ∃ m : Id29,
    exec (.filter id) s = .next { s with reply := .identifier m } ∧
    m.toNat = id.toNat / 2 ^ 8 * 2 ^ 8

/-- 40_codec.md R69: EVCODE, from any agent, in any state. -/
def Obligations.EvcodeReadsTheLowByte : Prop :=
  ∀ (id : Id29) (s : State), ∃ c : Byte,
    exec (.evcode id) s = .next { s with reply := .eventCode c } ∧ c.toNat = id.toNat % 2 ^ 8

/-- 40_codec.md R70, through the two transactions. -/
def Obligations.DecodeUndoesEncode : Prop :=
  ∀ (d p b : Byte) (s t : State) (id : Id29),
    exec (.encode d p b) s = .next t → t.reply = .identifier id →
    exec (.decode id) t = .next { t with reply := .address ⟨d, p, b⟩ }

/-- 40_codec.md R71, an inference the spec marks as its own (from R66, R67, R53): canonical identifiers, the others, and
the bijection. -/
def Obligations.EncodeUndoesDecodeOnCanonicalIds : Prop :=
  (∀ id : Id29, id.extractLsb' 24 5 = 0 → packAddress (unpackAddress id) = id) ∧
  (∀ id : Id29, id.extractLsb' 24 5 ≠ 0 →
    packAddress (unpackAddress id) = id &&& 0x00FFFFFF#29 ∧ id &&& 0x00FFFFFF#29 ≠ id) ∧
  (∀ a : WireAddress, (packAddress a).extractLsb' 24 5 = 0 ∧
    ∀ id : Id29, id.extractLsb' 24 5 = 0 → unpackAddress id = a → id = packAddress a)

/-- 40_codec.md R72, an inference the spec marks as its own (from R66, R68, R69). -/
def Obligations.FilterLaws : Prop :=
  (∀ id : Id29, stripLowByte (stripLowByte id) = stripLowByte id) ∧
  (∀ id : Id29, (stripLowByte id).extractLsb' 0 8 = 0) ∧
  (∀ d p b : Byte, stripLowByte (packAddress ⟨d, p, b⟩) = packAddress ⟨d, p, 0⟩) ∧
  (∀ id : Id29, stripLowByte id ||| (idEventCode id).setWidth 29 = id)

/-! ### The transmit sequencer -/

/-- 41_tx_sequencer.md R74: an accepted request, from the transmit client in IDLE. -/
def Obligations.SendAcceptLatchesTheRequest : Prop :=
  ∀ (id : Id29) (len : BitVec 4) (l : Len) (data : Bytes8) (s : State),
    s.issuer = .txClient → l.val = len.toNat → s.seq = .idle →
    exec (.sendAccept id len data) s =
      .next { s with permit := false, txId := id, txLen := l, txData := data, seq := .issue, reply := .done }

/-- 41_tx_sequencer.md R74: a request while one is in progress holds. -/
def Obligations.SendAcceptHoldsUnlessIdle : Prop :=
  ∀ (id : Id29) (len : BitVec 4) (data : Bytes8) (s : State),
    s.issuer = .txClient → len.toNat ≤ 8 → s.seq ≠ .idle →
    exec (.sendAccept id len data) s = .next { s with reply := .held }

/-- 41_tx_sequencer.md R75: the latched frame goes to the link and is counted, whatever the link answers. -/
def Obligations.SendIssueHandsTheFrameAndCounts : Prop :=
  ∀ (res : LinkResult) (s : State), s.issuer = .sequencer → s.seq = .issue →
    ∃ sc ec : Cnt,
      exec (.sendIssue res) s =
        .next { s with linkOut := s.linkOut ++ [⟨s.txId, s.txData.toList.take s.txLen.val, s.txLen⟩]
                       sendCount := sc, errCount := ec, seq := .wait, reply := .done } ∧
      sc.toNat = (s.sendCount.toNat + 1) % 2 ^ 32 ∧
      ec.toNat = (s.errCount.toNat + if res = .fail then 1 else 0) % 2 ^ 32

/-- 41_tx_sequencer.md R75: no frame is handed over outside ISSUE. -/
def Obligations.SendIssueHoldsUnlessIssue : Prop :=
  ∀ (res : LinkResult) (s : State), s.issuer = .sequencer → s.seq ≠ .issue →
    exec (.sendIssue res) s = .next { s with reply := .held }

/-- 41_tx_sequencer.md R76: with a permit the request ends, and the transmit client's call returns (log 12). -/
def Obligations.SendFinishTakesThePermit : Prop :=
  ∀ s : State, s.issuer = .sequencer → s.seq = .wait → s.permit = true →
    exec .sendFinish s =
      .next { s with permit := false, seq := .idle, replyTo := .txClient, reply := .sendReturned }

/-- 41_tx_sequencer.md R76: without a permit, or outside WAIT, the sequencer holds. -/
def Obligations.SendFinishHoldsWithoutPermit : Prop :=
  ∀ s : State, s.issuer = .sequencer → (s.seq ≠ .wait ∨ s.permit = false) →
    exec .sendFinish s = .next { s with reply := .held }

/-- 41_tx_sequencer.md R77: TX_DONE releases the permit in every state, and leaves a released one released. -/
def Obligations.TxDoneReleasesThePermit : Prop :=
  ∀ s : State, s.issuer = .linkEnv →
    exec .txDone s = .next { s with permit := true, reply := .done }

/-- 41_tx_sequencer.md R78, an inference the spec marks as its own: one whole request with its completion, from IDLE:
the four turns end in IDLE with the permit taken, the frame handed over and counted once. -/
def Obligations.WholeRequestEndsInIdle : Prop :=
  ∀ (id : Id29) (len : BitVec 4) (l : Len) (data : Bytes8) (s : State),
    l.val = len.toNat → s.seq = .idle →
    runTurns [(.txClient, .sendAccept id len data), (.sequencer, .sendIssue .ok), (.linkEnv, .txDone),
        (.sequencer, .sendFinish)] s =
      { s with permit := false, txId := id, txLen := l, txData := data, seq := .idle
               sendCount := s.sendCount + 1
               linkOut := s.linkOut ++ [⟨id, data.toList.take l.val, l⟩]
               issuer := .sequencer, replyTo := .txClient, reply := .sendReturned }

/-- 70_reset_and_hazards.md R119, an inference the spec marks as its own: a completion raised between SEND_ACCEPT and
SEND_ISSUE ends the request at once. -/
def Obligations.StrayCompletionEndsTheRequestEarly : Prop :=
  ∀ (res : LinkResult) (s : State), s.seq = .issue →
    (runTurns [(.linkEnv, .txDone), (.sequencer, .sendIssue res), (.sequencer, .sendFinish)] s).seq = .idle ∧
    (runTurns [(.linkEnv, .txDone), (.sequencer, .sendIssue res)] s).linkOut = s.linkOut ++ [s.latchedFrame]

/-- 41_tx_sequencer.md R78, last sentence, and 70_reset_and_hazards.md R118, inferences the spec marks as its own: with
the permit cleared and a request in progress, no run without a completion ends the request. -/
def Obligations.NoCompletionNoFinish : Prop :=
  ∀ (s : State) (es : List Turn), s.seq ≠ .idle → s.permit = false → NoReset es → NoCompletion es →
    (runTurns es s).seq ≠ .idle ∧ (runTurns es s).permit = false

/-- 41_tx_sequencer.md R79, an inference the spec marks as its own (from R74 to R78), its premise in
counts (log 21): under the well-behaved link premise, when SEND_ISSUE of a request is enabled every frame handed over
before has had its completion, and when SEND_FINISH is enabled the request's own frame has had it too. -/
def Obligations.TransmissionIsSerialized : Prop :=
  ∀ (s : State) (es : List Turn), s.seq = .idle → NoReset es → WellBehavedLink es s LinkTally.zero →
    ((runTurns es s).seq = .issue →
      (tallyRun es s LinkTally.zero).completed = (tallyRun es s LinkTally.zero).handed) ∧
    ((runTurns es s).seq = .wait → (runTurns es s).permit = true →
      (tallyRun es s LinkTally.zero).completed = (tallyRun es s LinkTally.zero).handed)

/-- 41_tx_sequencer.md R80, an inference the spec marks as its own (from R74 and R76): the permit of an idle
sequencer changes nothing in any later step but itself, and nothing at all from the next accepted request on. -/
def Obligations.StalePermitIsUnobservable : Prop :=
  ∀ (s : State) (b : Bool) (es : List Turn), s.seq = .idle →
    ∃ c : Bool, runTurns es { s with permit := b } = { runTurns es s with permit := c } ∧
      ((runTurns es s).seq ≠ .idle → c = (runTurns es s).permit)

/-- 20_memory.md R48 and 41_tx_sequencer.md R83 (an inference the spec marks as its own): the link receives exactly the
frames of the accepted requests, in the order they were accepted; only the last may still be in the latch. -/
def Obligations.FramesReachTheLinkInRequestOrder : Prop :=
  ∀ (s : State) (es : List Turn), s.seq = .idle → NoReset es →
    (runTurns es s).linkOut ++ inLatch (runTurns es s) = s.linkOut ++ acceptedFrames es s

/-- 10_state.md R21, R22 and 41_tx_sequencer.md R82: over a run without RESET the two counters grow by the frames handed
over and by the failed ones, modulo 2^32, and the failed ones are among the handed ones. -/
def Obligations.SendAndErrorCountersCountIssues : Prop :=
  ∀ (s : State) (es : List Turn), NoReset es →
    (runTurns es s).sendCount = s.sendCount + BitVec.ofNat 32 (tallyRun es s LinkTally.zero).handed ∧
    (runTurns es s).errCount = s.errCount + BitVec.ofNat 32 (tallyRun es s LinkTally.zero).failed ∧
    (tallyRun es s LinkTally.zero).failed ≤ (tallyRun es s LinkTally.zero).handed

/-! ### The inbound router -/

/-- 42_router.md R84 to R90: one received frame, for every value of the OPEN parameters: the scratch bytes below `len`
are the frame's, each queue takes of what the branches offer it as much as fits, and the rest is counted as dropped. -/
def Obligations.RouterQueuesWhatTheBranchesOffer : Prop :=
  ∀ (p : Config.Params) (id : Id29) (rtr : Bool) (len : BitVec 4) (l : Len) (data : Bytes8) (s : State),
    l.val = len.toNat →
    ∃ rb : Bytes8, ∃ ts : List Trig, ∃ ms : List CmdMsg,
      (∀ (i : Nat) (h : i < 8), i < l.val → rb[i] = data[i]) ∧
      ts = offeredTriggers p (.linkEnv, .rxFrame id rtr len data) ∧
      ms = (if reachesCommand p id rtr then
        [⟨id.extractLsb' 16 8, id.extractLsb' 8 8, id.extractLsb' 0 8, l, rb⟩] else []) ∧
      routeFrame p id rtr l data s =
        { s with rxBuf := rb
                 tq := s.tq ++ fitting 128 s.tq.length ts
                 tqDropCount := s.tqDropCount + BitVec.ofNat 32 (ts.length - (128 - s.tq.length))
                 cq := s.cq ++ fitting 64 s.cq.length ms
                 cqDropCount := s.cqDropCount + BitVec.ofNat 32 (ms.length - (64 - s.cq.length))
                 drawCount := s.drawCount + 1 }

/-- 42_router.md R84: RX_FRAME from the link environment is the router at the block's own parameter values. -/
def Obligations.RxFrameRoutesTheFrame : Prop :=
  ∀ (id : Id29) (rtr : Bool) (len : BitVec 4) (l : Len) (data : Bytes8) (s : State),
    s.issuer = .linkEnv → l.val = len.toNat →
    exec (.rxFrame id rtr len data) s =
      .next { routeFrame Config.params id rtr l data s with reply := .done }

/-- 42_router.md R86: a LOG frame pushes its event code first, whatever the rest of the frame; it also becomes a command
exactly when the parameter lets it fall through (and it is no remote read of a coinciding CONFIG device, R92). -/
def Obligations.LogFramePushesItsEventCode : Prop :=
  ∀ (p : Config.Params) (id : Id29) (rtr : Bool) (l : Len) (data : Bytes8) (s : State),
    idDevice id = p.logId → s.tq.length < 128 → s.cq.length < 64 →
    (∃ (w : Trig) (rest : List Trig),
      (routeFrame p id rtr l data s).tq = s.tq ++ w :: rest ∧
      viewTrigger w = .logEvent (id.extractLsb' 0 8) ∧ (p.logFallthrough = false → rest = [])) ∧
    (p.logFallthrough = false → (routeFrame p id rtr l data s).cq = s.cq) ∧
    (p.logFallthrough = true → p.logId ≠ 0 → ¬(p.configId = p.logId ∧ rtr = true) →
      ∃ m : CmdMsg, (routeFrame p id rtr l data s).cq = s.cq ++ [m] ∧ m.device = p.logId ∧
        m.subpacket = id.extractLsb' 0 8)

/-- 42_router.md R87: a CONFIG remote read pushes the CONFIG trigger and ends the event, whatever its length; a CONFIG
data frame goes on to the command branch. -/
def Obligations.ConfigRemoteReadPushesTheConfigTrigger : Prop :=
  ∀ (p : Config.Params) (id : Id29) (l : Len) (data : Bytes8) (s : State),
    idDevice id = p.configId → p.configId ≠ p.logId → s.tq.length < 128 → s.cq.length < 64 →
    (∃ w : Trig, (routeFrame p id true l data s).tq = s.tq ++ [w] ∧ viewTrigger w = .device p.configId) ∧
    (routeFrame p id true l data s).cq = s.cq ∧
    (routeFrame p id false l data s).tq = s.tq ∧
    (p.configId ≠ 0 → ∃ m : CmdMsg, (routeFrame p id false l data s).cq = s.cq ++ [m] ∧
      m.device = p.configId ∧ m.length = l)

/-- 42_router.md R88: where the event has not ended and the device is not 0, one new record is queued, whose payload is
the scratch buffer, and no received frame of any kind changes a record already queued. -/
def Obligations.CommandFrameQueuesOneRecord : Prop :=
  ∀ (p : Config.Params) (id : Id29) (rtr : Bool) (l : Len) (data : Bytes8) (s : State),
    s.cq <+: (routeFrame p id rtr l data s).cq ∧
    (reachesCommand p id rtr → s.cq.length < 64 →
      (routeFrame p id rtr l data s).cq = s.cq ++
        [⟨id.extractLsb' 16 8, id.extractLsb' 8 8, id.extractLsb' 0 8, l, (routeFrame p id rtr l data s).rxBuf⟩] ∧
      ∀ (i : Nat) (h : i < 8), i < l.val → (routeFrame p id rtr l data s).rxBuf[i] = data[i])

/-- 42_router.md R89, an inference the spec marks as its own (from R84): a device-0 frame changes nothing but the
scratch buffer (and the model's draw counter, log 9). -/
def Obligations.DeviceZeroPushesNothing : Prop :=
  ∀ (p : Config.Params) (id : Id29) (rtr : Bool) (l : Len) (data : Bytes8) (s : State),
    idDevice id = 0 → p.logId ≠ 0 → ¬(p.configId = 0 ∧ rtr = true) →
    routeFrame p id rtr l data s =
      { s with rxBuf := (routeFrame p id rtr l data s).rxBuf, drawCount := s.drawCount + 1 }

/-- 42_router.md R90: a push onto a full queue is dropped and counted, the event goes on as if it had succeeded. -/
def Obligations.FullQueuesDropAndCount : Prop :=
  ∀ (p : Config.Params) (id : Id29) (rtr : Bool) (l : Len) (data : Bytes8) (s : State),
    (idDevice id = p.logId → s.tq.length = 128 → ¬(idDevice id = p.configId ∧ rtr = true) →
      (routeFrame p id rtr l data s).tq = s.tq ∧
      (routeFrame p id rtr l data s).tqDropCount = s.tqDropCount + 1 ∧
      (idDevice id ≠ 0 → p.logFallthrough = true → s.cq.length < 64 →
        (routeFrame p id rtr l data s).cq.length = s.cq.length + 1)) ∧
    (idDevice id = p.configId → rtr = true → idDevice id ≠ p.logId → s.tq.length = 128 →
      (routeFrame p id rtr l data s).tq = s.tq ∧
      (routeFrame p id rtr l data s).tqDropCount = s.tqDropCount + 1 ∧
      (routeFrame p id rtr l data s).cq = s.cq) ∧
    (reachesCommand p id rtr → s.cq.length = 64 →
      (routeFrame p id rtr l data s).cq = s.cq ∧
      (routeFrame p id rtr l data s).cqDropCount = s.cqDropCount + 1 ∧
      (idDevice id = p.logId → s.tq.length < 128 →
        (routeFrame p id rtr l data s).tq.length = s.tq.length + 1))

/-- 42_router.md R91, an inference the spec marks as its own (from R84 and R56): the request flag makes no difference
to a frame of any device but CONFIG. -/
def Obligations.RequestFlagSteersOnlyConfig : Prop :=
  ∀ (p : Config.Params) (id : Id29) (l : Len) (data : Bytes8) (s : State), idDevice id ≠ p.configId →
    routeFrame p id true l data s = routeFrame p id false l data s

/-- 42_router.md R92, an inference the spec marks as its own (from R84): the four coinciding-parameter cases, with room
in both queues. -/
def Obligations.CoincidingParametersFollowBranchOrder : Prop :=
  ∀ (p : Config.Params) (id : Id29) (rtr : Bool) (l : Len) (data : Bytes8) (s : State),
    s.tq.length + 1 < 128 → s.cq.length < 64 →
    (p.logId = p.configId → idDevice id = p.logId → rtr = true →
      (routeFrame p id rtr l data s).tq = s.tq ++ logTrigger (id.extractLsb' 0 8) ::
        (if p.logFallthrough then [deviceTrigger p.configId] else []) ∧
      (routeFrame p id rtr l data s).cq = s.cq) ∧
    (p.logId = p.configId → idDevice id = p.logId → rtr = false →
      (routeFrame p id rtr l data s).tq = s.tq ++ [logTrigger (id.extractLsb' 0 8)] ∧
      (routeFrame p id rtr l data s).cq.length =
        s.cq.length + if p.logFallthrough = true ∧ p.logId ≠ 0 then 1 else 0) ∧
    (p.logId = 0 → idDevice id = 0 →
      (∃ rest, (routeFrame p id rtr l data s).tq = s.tq ++ logTrigger (id.extractLsb' 0 8) :: rest) ∧
      (routeFrame p id rtr l data s).cq = s.cq) ∧
    (p.configId = 0 → p.logId ≠ 0 → idDevice id = 0 → rtr = true →
      (routeFrame p id rtr l data s).tq = s.tq ++ [0x0000#16])

/-- 70_reset_and_hazards.md R122: bits 28:24 do not reach the router, and FILTER keeps them. -/
def Obligations.UpperIdentifierBitsAreAliased : Prop :=
  (∀ (id : Id29) (rtr : Bool) (len : BitVec 4) (data : Bytes8) (s : State),
    exec (.rxFrame id rtr len data) s = exec (.rxFrame (id &&& 0x00FFFFFF#29) rtr len data) s) ∧
  (∀ id : Id29, (stripLowByte id).extractLsb' 24 5 = id.extractLsb' 24 5)

/-- 30_encoding.md R57: the words of the abstract triggers read back as those triggers, and kinds 3 and up are opaque.
-/
def Obligations.TriggerWordsReadBack : Prop :=
  (∀ d : Byte, viewTrigger (deviceTrigger d) = .device d) ∧ (∀ c : Byte, viewTrigger (logTrigger c) = .logEvent c) ∧
  viewTrigger answerTrigger = .answerReady ∧
  (∀ k a : Byte, 3 ≤ k.toNat → viewTrigger (trigWord k a) = .other (trigWord k a))

/-! ### The queues and the status port -/

/-- 43_queues.md R95: PUSH_TRIG with room, for any word. -/
def Obligations.PushTrigAppendsWithRoom : Prop :=
  ∀ (w : Trig) (s : State), s.issuer = .cmdClient → s.tq.length < 128 →
    exec (.pushTrig w) s = .next { s with tq := s.tq ++ [w], reply := .accepted true }

/-- 43_queues.md R95: PUSH_TRIG on a full queue drops the word, counts it and says so. -/
def Obligations.PushTrigDropsWhenFull : Prop :=
  ∀ (w : Trig) (s : State), s.issuer = .cmdClient → 128 ≤ s.tq.length →
    exec (.pushTrig w) s = .next { s with tqDropCount := s.tqDropCount + 1, reply := .accepted false }

/-- 43_queues.md R94, whole, for the pop of each queue (R96, R97): the oldest item of a nonempty queue is removed and
returned; on an empty queue the popping client holds, as long as the queue stays empty. -/
def Obligations.PopsTakeTheOldestItemOrHold : Prop :=
  (∀ (w : Trig) (q : List Trig) (s : State), s.issuer = .txClient → s.tq = w :: q →
    exec .popTrig s = .next { s with tq := q, reply := .trigger w }) ∧
  (∀ (m : CmdMsg) (q : List CmdMsg) (s : State), s.issuer = .cmdClient → s.cq = m :: q →
    exec .popCmd s = .next { s with cq := q, reply := .command m }) ∧
  (∀ s : State, s.issuer = .txClient → s.tq = [] → exec .popTrig s = .next { s with reply := .held }) ∧
  (∀ s : State, s.issuer = .cmdClient → s.cq = [] → exec .popCmd s = .next { s with reply := .held })

/-- 43_queues.md R98: STATUS, from any agent, in any state, writes nothing and clears nothing. -/
def Obligations.StatusIsOneSnapshot : Prop :=
  ∀ s : State, exec .status s =
    .next { s with reply := .status ⟨s.sendCount, s.errCount, s.tqDropCount, s.cqDropCount, s.tq.length, s.cq.length, s.seq⟩ }

/-- 20_memory.md R42 and 43_queues.md R99, the trigger queue: over any run without RESET, from any state, what was there
followed by what was pushed with success is what was popped followed by what is left, and the drop counter grows by what
was offered and not taken. -/
def Obligations.TriggerQueueIsFifo : Prop :=
  ∀ (s : State) (es : List Turn), NoReset es →
    s.tq ++ pushedTriggers Config.params es s = poppedTriggers es s ++ (runTurns es s).tq ∧
    (pushedTriggers Config.params es s).length ≤ (allOfferedTriggers Config.params es).length ∧
    (runTurns es s).tqDropCount = s.tqDropCount +
      BitVec.ofNat 32 ((allOfferedTriggers Config.params es).length - (pushedTriggers Config.params es s).length)

/-- 20_memory.md R42 and 43_queues.md R99, the command queue. -/
def Obligations.CommandQueueIsFifo : Prop :=
  ∀ (s : State) (es : List Turn), NoReset es →
    s.cq ++ pushedCommands Config.params es s = poppedCommands es s ++ (runTurns es s).cq ∧
    (pushedCommands Config.params es s).length ≤ (allOfferedCommands Config.params es s).length ∧
    (runTurns es s).cqDropCount = s.cqDropCount +
      BitVec.ofNat 32 ((allOfferedCommands Config.params es s).length - (pushedCommands Config.params es s).length)

/-! ### Reset -/

/-- 70_reset_and_hazards.md R114: RESET from the platform, in any state: queues, sequencer and counters as the rule
says, the permit and the unwritten elements at values nothing is said of, the mark and everything not named unchanged.
That the transactions on hold are dropped and the draw counter advances is the model's (log 10, log 9). -/
def Obligations.ResetRestartsTheBlock : Prop :=
  ∀ s : State, s.issuer = .platform →
    ∃ (pm : Bool) (rb td : Bytes8) (ti : Id29) (tl : Len),
      exec .reset s =
        .next { s with tq := [], cq := [], permit := pm, seq := .idle, sendCount := 0, errCount := 0
                       tqDropCount := 0, cqDropCount := 0, rxBuf := rb, txId := ti, txData := td, txLen := tl
                       waiting := [], drawCount := s.drawCount + 1, reply := .done }

/-- 10_state.md R32: the elements the rule gives a value, in the state after reset. -/
def Obligations.ResetStateHasTheTabledValues : Prop :=
  State.reset.tq = [] ∧ State.reset.cq = [] ∧ State.reset.seq = .idle ∧ State.reset.sendCount = 0 ∧
  State.reset.errCount = 0 ∧ State.reset.tqDropCount = 0 ∧ State.reset.cqDropCount = 0 ∧
  State.reset.refused = false

/-! ### Words -/

/-- 30_encoding.md R61: every field of every well-formed transaction stands where the rule puts it, every other bit is
0. -/
def Obligations.EncodingPlacesEveryField : Prop :=
  ∀ i : Instr, i.wellFormed = true → (encode i).toNat = wordValue i

/-- 30_encoding.md R61: decoding the word of a well-formed transaction gives it back, whatever its operands. -/
def Obligations.DecodeOfEncodeIsTheTransaction : Prop :=
  ∀ i : Instr, i.wellFormed = true → decode (encode i) = .ok i

/-- 30_encoding.md R61, R62: each legal word spells exactly one transaction, which is well formed. -/
def Obligations.EncodeOfDecodeIsTheWord : Prop :=
  ∀ (w : Word) (i : Instr), decode w = .ok i → i.wellFormed = true ∧ encode i = w

/-- 30_encoding.md R62: the words not refused for their bits are those of the rows of the opcode table, with `len` in
0..8 where the row has that bound. -/
def Obligations.LegalWordsAreTheTablesRows : Prop :=
  ∀ w : Word, (∃ i : Instr, decode w = .ok i) ↔
    ∃ r ∈ opcodeTable, w &&& r.mask = r.pattern ∧
      ((r.mnemonic = "RX_FRAME" ∨ r.mnemonic = "SEND_ACCEPT") → (w.extractLsb' 4 4).toNat ≤ 8)

/-- 95_test_vectors.md, words written out from 30_encoding.md R61: one of each family. -/
def Obligations.WrittenOutWordsDecode : Prop :=
  decode 0x00000000000000000000001234560001 = .ok (.encode 0x12 0x34 0x56) ∧
  decode 0x00006867666564636261007103000085 =
    .ok (.rxFrame 0x00710300 false 8 #v[0x61, 0x62, 0x63, 0x64, 0x65, 0x66, 0x67, 0x68]) ∧
  decode 0x00000000000000000000000000000108 = .ok (.sendIssue .fail) ∧
  decode 0x0200000000000000000000000000000A = .ok (.pushTrig 0x0200) ∧
  decode 0x0000000000000000000000000000000F = .ok .reset

/-! ### Refusals and who may issue what -/

/-- 10_state.md R31 and 30_encoding.md R62, with the model's reading of who "any agent" is and of what the event handler
may issue (log 14): a transaction issued by an agent not allowed is refused, which changes nothing but the
mark; issued by an agent the rule allows, a well-formed one is not refused. -/
def Obligations.IssuerDecidesRefusal : Prop :=
  (∀ (i : Instr) (s : State), s.issuer ∉ allowed i →
    exec i s = .next { s with refused := true, reply := .refused }) ∧
  (∀ (i : Instr) (s : State), s.issuer ∈ allowed i → i.wellFormed = true →
    ∃ t : State, exec i s = .next t ∧ t.reply ≠ .refused ∧ t.refused = s.refused)

/-- 30_encoding.md R62, third case, in the meaning itself: a `len` of 9..15 is refused, whoever issues it. -/
def Obligations.LengthAboveEightIsRefused : Prop :=
  ∀ (i : Instr) (s : State), i.wellFormed = false →
    exec i s = .next { s with refused := true, reply := .refused }

/-- 30_encoding.md R62: a step on a word refused for its bits changes no element of the block but the mark. -/
def Obligations.RefusedWordOnlySetsTheMark : Prop :=
  ∀ (s t : State) (a : Agent) (rest : List Agent) (r : Request) (e : DecodeError),
    s.schedule = a :: rest → (s.begin a rest).takeRequest a = some (r, t) → decode r.word = .error e →
    ∃ u : State, step s = .next u ∧ blockOf u = { blockOf s with refused := true } ∧ u.reply = .refused ∧
      u.linkOut = s.linkOut

/-- 10_state.md R25: a refused transaction sets the mark, and no step clears it, not even one that takes a RESET. -/
def Obligations.RefusalMarkIsSetAndNeverCleared : Prop :=
  ∀ s t : State, step s = .next t → (t.reply = .refused → t.refused = true) ∧ (s.refused = true → t.refused = true)

/-- 10_state.md R13: no transaction writes an element the table does not say it writes. -/
def Obligations.OnlyTheTabledWritersWrite : Prop :=
  ∀ (i : Instr) (s t : State), exec i s = .next t → blockOf t = onlyChanges i (blockOf s) (blockOf t)

/-! ### The step -/

/-- A step runs the decoded transaction: the scheduled agent's transaction `r` is taken off its list, the block being
as it was, and the step is `exec` of what `r` spells, with `settle` keeping the transaction where it holds (log 1, log
3). The one thing added: the transmit client inside its request holds, unless it is refused or is a codec operation (R74, R73, log 13, log 17). -/
def Obligations.StepRunsTheDecodedTransaction : Prop :=
  ∀ (s t : State) (a : Agent) (rest : List Agent) (r : Request) (i : Instr),
    s.schedule = a :: rest → (s.begin a rest).takeRequest a = some (r, t) → decode r.word = .ok i →
    t.issuer = a ∧ r.agent = a ∧ blockOf t = blockOf s ∧
    (a ≠ .txClient ∨ s.seq = .idle ∨ isCodec i = true → step s = match exec i t with
      | .next u => .next (u.settle r)
      | .fault f => .fault f
      | .refused c => .refused c) ∧
    (a = .txClient → s.seq ≠ .idle → isCodec i = false → ∃ u : State, exec i t = .next u ∧
      step s = .next (if u.reply = .refused then u else { t with reply := .held, waiting := t.waiting ++ [r] }))

/-- A legal word placed by `withFetchWord` is the very next transaction, issued by an agent 10_state.md R31 allows (log
15). Only SEND_ACCEPT and POP_TRIG are placed for the transmit client, which holds inside its request (log 13). -/
def Obligations.PlacedWordIsTheNextTransaction : Prop :=
  ∀ (s : State) (w : Word) (i : Instr), decode w = .ok i →
    ∃ t : State, blockOf t = blockOf s ∧ t.issuer ∈ allowed i ∧
      (t.issuer = .txClient → i = .popTrig ∨ ∃ (id : Id29) (len : BitVec 4) (data : Bytes8), i = .sendAccept id len data) ∧
      (t.issuer ≠ .txClient ∨ s.seq = .idle → step (s.withFetchWord 128 w.toNat) = match exec i t with
        | .next u => .next (u.settle ⟨t.issuer, w⟩)
        | .fault f => .fault f
        | .refused c => .refused c) ∧
      (t.issuer = .txClient → s.seq ≠ .idle → step (s.withFetchWord 128 w.toNat) =
        .next { t with reply := .held, waiting := t.waiting ++ [⟨.txClient, w⟩] })

/-- The model's choice: every step answers a next state, a hold being one (log 1), a refusal of the spec being one (log
2), and a step with nothing to take being one (log 18). Nothing raises a fault (60_exceptions.md R100). -/
def Obligations.EveryStepAnswersANextState : Prop :=
  ∀ s : State, ∃ t : State, step s = .next t

/-- 00_scope.md R10 and 60_exceptions.md R113: a transaction that holds changes nothing of the block, and it is what its
agent presents at its next turn (log 1). -/
def Obligations.HeldTransactionWaitsAndIsRetried : Prop :=
  ∀ (s t u : State) (a : Agent) (rest : List Agent) (r : Request) (i : Instr), OneWaitEach s →
    s.schedule = a :: rest → (s.begin a rest).takeRequest a = some (r, t) → decode r.word = .ok i →
    issue i t = .next u → u.reply = .held →
    ∃ v : State, step s = .next v ∧ blockOf v = blockOf s ∧ v.linkOut = s.linkOut ∧
      ∀ later : List Agent, ∃ v' : State, (v.begin a later).takeRequest a = some (r, v')

/-- 43_queues.md R99, an inference the spec marks as its own (from R93 and R94): every step keeps the occupancy bounds,
and each agent waits in one transaction at most. -/
def Obligations.EveryStepKeepsTheInvariant : Prop :=
  ∀ s t : State, Invariant s → step s = .next t → Invariant t

/-- The invariant holds after reset. -/
def Obligations.ResetMeetsTheInvariant : Prop := Invariant State.reset

/-- 60_exceptions.md R104 leaves the order of two pending events open. That a frame and a completion leave the same
block in either order follows from 41_tx_sequencer.md R77 (TX_DONE writes the permit alone) and 42_router.md R84
(RX_FRAME neither reads nor writes it). -/
def Obligations.PendingEventsCommute : Prop :=
  ∀ (id : Id29) (rtr : Bool) (len : BitVec 4) (data : Bytes8) (s : State),
    blockOf (runTurns [(.linkEnv, .rxFrame id rtr len data), (.linkEnv, .txDone)] s) =
      blockOf (runTurns [(.linkEnv, .txDone), (.linkEnv, .rxFrame id rtr len data)] s)

/-- 70_reset_and_hazards.md R126: in a quiescent state a client's turn changes nothing of the block and leaves the state
quiescent. -/
def Obligations.QuiescentClientsStayAtRest : Prop :=
  ∀ (s : State) (a : Agent) (rest : List Agent), Invariant s → Quiescent s → s.schedule = a :: rest →
    (a = .txClient ∨ a = .cmdClient) →
    ∃ t : State, step s = .next t ∧ blockOf t = blockOf s ∧ Quiescent t

/-! ### The transmit client inside its request -/

/-- 41_tx_sequencer.md R74: from an accepted request to its SEND_FINISH the transmit client is blocked. Whatever legal
transaction but a codec operation it presents holds: its turn changes nothing of the block, and it presents the same
transaction at its next turn (that this takes in STATUS is log 13, that a hold is a next state is log 1). Last clause:
40_codec.md R73, an inference the spec marks as its own (from R66 to R69): no codec operation of any agent holds in any
state. -/
def Obligations.TransmitClientHoldsInsideItsRequest : Prop :=
  (∀ (s t : State) (rest : List Agent) (r : Request) (i : Instr), OneWaitEach s → s.seq ≠ .idle →
    s.schedule = .txClient :: rest → (s.begin .txClient rest).takeRequest .txClient = some (r, t) →
    decode r.word = .ok i → .txClient ∈ allowed i → isCodec i = false →
    ∃ v : State, step s = .next v ∧ v.reply = .held ∧ blockOf v = blockOf s ∧ v.linkOut = s.linkOut ∧
      ∀ later : List Agent, ∃ v' : State, (v.begin .txClient later).takeRequest .txClient = some (r, v')) ∧
  (∀ (i : Instr) (s : State), isCodec i = true →
    ∃ r : Reply, issue i s = .next { s with reply := r } ∧ r ≠ .held ∧ r ≠ .refused)

/-- 41_tx_sequencer.md R81 and 70_reset_and_hazards.md R118, inferences the spec marks as its own: after a failed start
with no permit, as long as no completion and no RESET comes, the sequencer stays in WAIT with no permit, its SEND_FINISH
holds, and so does every transaction but a codec operation that the transmit client may issue (R74, log 13). -/
def Obligations.FailedStartHangsTheTransmitPath : Prop :=
  ∀ (s : State) (es : List Turn), s.seq = .issue → s.permit = false → NoReset es → NoCompletion es →
    ∃ u : State, u = runTurns ((.sequencer, .sendIssue .fail) :: es) s ∧
      u.seq = .wait ∧ u.permit = false ∧ u.errCount = s.errCount + 1 ∧
      (take (.sequencer, .sendFinish) u).reply = .held ∧ blockOf (take (.sequencer, .sendFinish) u) = blockOf u ∧
      ∀ i : Instr, .txClient ∈ allowed i → i.wellFormed = true → isCodec i = false →
        (take (.txClient, i) u).reply = .held ∧ blockOf (take (.txClient, i) u) = blockOf u
end

