-- ==== Sys2Proof/Laws/Decode.lean ====
section
/-! SUPPORT. The fields of an assembled word, and that no word is of two rows of the opcode table. -/

namespace Sys2Proof

/-! ### Reading a field of a concatenation -/

/-- A field at or above the low part of a concatenation is a field of its high part. -/
theorem extractLsb'_append_high {n m : Nat} (x : BitVec n) (y : BitVec m) (k w : Nat) :
    (x ++ y).extractLsb' (m + k) w = x.extractLsb' k w := by
  apply BitVec.eq_of_getLsbD_eq
  intro i hi
  simp [BitVec.getLsbD_append, hi, Nat.add_assoc]

/-- A field inside the low part of a concatenation is a field of its low part. -/
theorem extractLsb'_append_low {n m : Nat} (x : BitVec n) (y : BitVec m) {k w : Nat} (h : k + w ≤ m) :
    (x ++ y).extractLsb' k w = y.extractLsb' k w := by
  apply BitVec.eq_of_getLsbD_eq
  intro i hi
  simp [BitVec.getLsbD_append, hi, show k + i < m by omega]

theorem extractLsb'_whole {n : Nat} (x : BitVec n) : x.extractLsb' 0 n = x := by
  apply BitVec.eq_of_getLsbD_eq
  intro i hi
  simp [hi]

/-! ### The fields of an assembled word (30_encoding.md R61) -/

section
variable (t : Trig) (x : BitVec 64) (id : Id29) (f : BitVec 1) (l o : BitVec 4)

/-- The field at the bottom of a concatenation is its low part. -/
theorem extractLsb'_append_bottom {n m : Nat} (x : BitVec n) (y : BitVec m) : (x ++ y).extractLsb' 0 m = y :=
  (extractLsb'_append_low x y (Nat.zero_add m).le).trans (extractLsb'_whole y)

/-- A field above the operation selector. -/
theorem assemble_above_op (k w : Nat) :
    (assemble t x id f l o).extractLsb' (4 + k) w = (t ++ x ++ 0#3 ++ id ++ 0#7 ++ f ++ l).extractLsb' k w :=
  extractLsb'_append_high _ _ _ _

/-- A field above the length. -/
theorem assemble_above_len (k w : Nat) :
    (assemble t x id f l o).extractLsb' (8 + k) w = (t ++ x ++ 0#3 ++ id ++ 0#7 ++ f).extractLsb' k w := by
  rw [show 8 + k = 4 + (4 + k) by omega, assemble_above_op, extractLsb'_append_high]

/-- A field above the reserved bits 15:9. -/
theorem assemble_above_flag (k w : Nat) :
    (assemble t x id f l o).extractLsb' (16 + k) w = (t ++ x ++ 0#3 ++ id).extractLsb' k w := by
  rw [show 16 + k = 8 + (1 + (7 + k)) by omega, assemble_above_len, extractLsb'_append_high,
    extractLsb'_append_high]

/-- A field above the reserved bits 47:45. -/
theorem assemble_above_id (k w : Nat) :
    (assemble t x id f l o).extractLsb' (48 + k) w = (t ++ x).extractLsb' k w := by
  rw [show 48 + k = 16 + (29 + (3 + k)) by omega, assemble_above_flag, extractLsb'_append_high,
    extractLsb'_append_high]

@[simp] theorem opField_assemble : opField (assemble t x id f l o) = o := extractLsb'_append_bottom _ _

@[simp] theorem lenField_assemble : lenField (assemble t x id f l o) = l :=
  (assemble_above_op t x id f l o 0 4).trans (extractLsb'_append_bottom _ _)

@[simp] theorem flagField_assemble : flagField (assemble t x id f l o) = f :=
  (assemble_above_len t x id f l o 0 1).trans (extractLsb'_append_bottom _ _)

@[simp] theorem idField_assemble : idField (assemble t x id f l o) = id :=
  (assemble_above_flag t x id f l o 0 29).trans (extractLsb'_append_bottom _ _)

/-- The three bytes of ENCODE are fields of the 29 bits at 44:16. -/
@[simp] theorem deviceField_assemble : deviceField (assemble t x id f l o) = id.extractLsb' 16 8 :=
  (assemble_above_flag t x id f l o 16 8).trans (extractLsb'_append_low _ _ (by decide))

@[simp] theorem parameterField_assemble : parameterField (assemble t x id f l o) = id.extractLsb' 8 8 :=
  (assemble_above_flag t x id f l o 8 8).trans (extractLsb'_append_low _ _ (by decide))

@[simp] theorem subpacketField_assemble : subpacketField (assemble t x id f l o) = id.extractLsb' 0 8 :=
  (assemble_above_flag t x id f l o 0 8).trans (extractLsb'_append_low _ _ (by decide))

theorem dataByteField_assemble {i : Nat} (h : i < 8) :
    dataByteField (assemble t x id f l o) i = x.extractLsb' (8 * i) 8 :=
  (assemble_above_id t x id f l o (8 * i) 8).trans (extractLsb'_append_low _ _ (by omega))

@[simp] theorem trigField_assemble : trigField (assemble t x id f l o) = t :=
  (assemble_above_id t x id f l o 64 16).trans
    ((extractLsb'_append_high t x 0 16).trans (extractLsb'_whole t))

end

/-! ### The data bytes -/

/-- Byte `i` of the packed data is data byte `i`. -/
theorem packData_byte (d : Bytes8) {i : Nat} (h : i < 8) : (packData d).extractLsb' (8 * i) 8 = d[i] := by
  rcases i with _ | _ | _ | _ | _ | _ | _ | _ | i
  · exact extractLsb'_append_bottom _ _
  · exact (extractLsb'_append_high _ _ 0 8).trans (extractLsb'_append_bottom _ _)
  · exact (extractLsb'_append_high _ _ 8 8).trans ((extractLsb'_append_high _ _ 0 8).trans
      (extractLsb'_append_bottom _ _))
  · exact (extractLsb'_append_high _ _ 16 8).trans ((extractLsb'_append_high _ _ 8 8).trans
      ((extractLsb'_append_high _ _ 0 8).trans (extractLsb'_append_bottom _ _)))
  · exact (extractLsb'_append_high _ _ 24 8).trans ((extractLsb'_append_high _ _ 16 8).trans
      ((extractLsb'_append_high _ _ 8 8).trans ((extractLsb'_append_high _ _ 0 8).trans
      (extractLsb'_append_bottom _ _))))
  · exact (extractLsb'_append_high _ _ 32 8).trans ((extractLsb'_append_high _ _ 24 8).trans
      ((extractLsb'_append_high _ _ 16 8).trans ((extractLsb'_append_high _ _ 8 8).trans
      ((extractLsb'_append_high _ _ 0 8).trans (extractLsb'_append_bottom _ _)))))
  · exact (extractLsb'_append_high _ _ 40 8).trans ((extractLsb'_append_high _ _ 32 8).trans
      ((extractLsb'_append_high _ _ 24 8).trans ((extractLsb'_append_high _ _ 16 8).trans
      ((extractLsb'_append_high _ _ 8 8).trans ((extractLsb'_append_high _ _ 0 8).trans
      (extractLsb'_append_bottom _ _))))))
  · exact (extractLsb'_append_high _ _ 48 8).trans ((extractLsb'_append_high _ _ 40 8).trans
      ((extractLsb'_append_high _ _ 32 8).trans ((extractLsb'_append_high _ _ 24 8).trans
      ((extractLsb'_append_high _ _ 16 8).trans ((extractLsb'_append_high _ _ 8 8).trans
      ((extractLsb'_append_high _ _ 0 8).trans (extractLsb'_whole _)))))))
  · omega

/-- The data field of an assembled word is the data that was packed. -/
@[simp] theorem dataField_assemble (t : Trig) (d : Bytes8) (id : Id29) (f : BitVec 1) (l o : BitVec 4) :
    dataField (assemble t (packData d) id f l o) = d := by
  have hb : ∀ i (h : i < 8), dataByteField (assemble t (packData d) id f l o) i = d[i] := fun i h =>
    (dataByteField_assemble t _ id f l o h).trans (packData_byte d h)
  ext i hi
  rcases i with _ | _ | _ | _ | _ | _ | _ | _ | i
  all_goals first
    | exact congrArg (BitVec.getLsbD · _) (hb _ (by decide))
    | omega

/-! ### The opcode table -/

/-- No word is of two rows: some bit both masks keep differs in the two patterns. -/
theorem opcodeTable_rows_disjoint :
    opcodeTable.Pairwise (fun r r' => r.mask &&& r'.mask &&& r.pattern ≠ r.mask &&& r'.mask &&& r'.pattern) := by
  decide

end Sys2Proof
end

