-- ==== Sys2Proof/Laws/State.lean ====
section
/-! SUPPORT. One lemma per field per state update of Machine/Ops.lean, each true by rfl, so that no proof unfolds an
update. -/

namespace Sys2Proof.Machine

/-! ### State.answer -/

@[simp] theorem State.answer_rxBuf (s : State) (r : Reply) : (s.answer r).rxBuf = s.rxBuf := rfl
@[simp] theorem State.answer_tq (s : State) (r : Reply) : (s.answer r).tq = s.tq := rfl
@[simp] theorem State.answer_cq (s : State) (r : Reply) : (s.answer r).cq = s.cq := rfl
@[simp] theorem State.answer_permit (s : State) (r : Reply) : (s.answer r).permit = s.permit := rfl
@[simp] theorem State.answer_seq (s : State) (r : Reply) : (s.answer r).seq = s.seq := rfl
@[simp] theorem State.answer_txId (s : State) (r : Reply) : (s.answer r).txId = s.txId := rfl
@[simp] theorem State.answer_txData (s : State) (r : Reply) : (s.answer r).txData = s.txData := rfl
@[simp] theorem State.answer_txLen (s : State) (r : Reply) : (s.answer r).txLen = s.txLen := rfl
@[simp] theorem State.answer_sendCount (s : State) (r : Reply) : (s.answer r).sendCount = s.sendCount := rfl
@[simp] theorem State.answer_errCount (s : State) (r : Reply) : (s.answer r).errCount = s.errCount := rfl
@[simp] theorem State.answer_tqDropCount (s : State) (r : Reply) : (s.answer r).tqDropCount = s.tqDropCount := rfl
@[simp] theorem State.answer_cqDropCount (s : State) (r : Reply) : (s.answer r).cqDropCount = s.cqDropCount := rfl
@[simp] theorem State.answer_refused (s : State) (r : Reply) : (s.answer r).refused = s.refused := rfl
@[simp] theorem State.answer_schedule (s : State) (r : Reply) : (s.answer r).schedule = s.schedule := rfl
@[simp] theorem State.answer_inbox (s : State) (r : Reply) : (s.answer r).inbox = s.inbox := rfl
@[simp] theorem State.answer_waiting (s : State) (r : Reply) : (s.answer r).waiting = s.waiting := rfl
@[simp] theorem State.answer_issuer (s : State) (r : Reply) : (s.answer r).issuer = s.issuer := rfl
@[simp] theorem State.answer_replyTo (s : State) (r : Reply) : (s.answer r).replyTo = s.replyTo := rfl
@[simp] theorem State.answer_reply (s : State) (r : Reply) : (s.answer r).reply = r := rfl
@[simp] theorem State.answer_linkOut (s : State) (r : Reply) : (s.answer r).linkOut = s.linkOut := rfl
@[simp] theorem State.answer_drawCount (s : State) (r : Reply) : (s.answer r).drawCount = s.drawCount := rfl

/-! ### State.answerTo -/

@[simp] theorem State.answerTo_rxBuf (s : State) (a : Agent) (r : Reply) : (s.answerTo a r).rxBuf = s.rxBuf := rfl
@[simp] theorem State.answerTo_tq (s : State) (a : Agent) (r : Reply) : (s.answerTo a r).tq = s.tq := rfl
@[simp] theorem State.answerTo_cq (s : State) (a : Agent) (r : Reply) : (s.answerTo a r).cq = s.cq := rfl
@[simp] theorem State.answerTo_permit (s : State) (a : Agent) (r : Reply) : (s.answerTo a r).permit = s.permit := rfl
@[simp] theorem State.answerTo_seq (s : State) (a : Agent) (r : Reply) : (s.answerTo a r).seq = s.seq := rfl
@[simp] theorem State.answerTo_txId (s : State) (a : Agent) (r : Reply) : (s.answerTo a r).txId = s.txId := rfl
@[simp] theorem State.answerTo_txData (s : State) (a : Agent) (r : Reply) : (s.answerTo a r).txData = s.txData := rfl
@[simp] theorem State.answerTo_txLen (s : State) (a : Agent) (r : Reply) : (s.answerTo a r).txLen = s.txLen := rfl
@[simp] theorem State.answerTo_sendCount (s : State) (a : Agent) (r : Reply) : (s.answerTo a r).sendCount = s.sendCount := rfl
@[simp] theorem State.answerTo_errCount (s : State) (a : Agent) (r : Reply) : (s.answerTo a r).errCount = s.errCount := rfl
@[simp] theorem State.answerTo_tqDropCount (s : State) (a : Agent) (r : Reply) : (s.answerTo a r).tqDropCount = s.tqDropCount := rfl
@[simp] theorem State.answerTo_cqDropCount (s : State) (a : Agent) (r : Reply) : (s.answerTo a r).cqDropCount = s.cqDropCount := rfl
@[simp] theorem State.answerTo_refused (s : State) (a : Agent) (r : Reply) : (s.answerTo a r).refused = s.refused := rfl
@[simp] theorem State.answerTo_schedule (s : State) (a : Agent) (r : Reply) : (s.answerTo a r).schedule = s.schedule := rfl
@[simp] theorem State.answerTo_inbox (s : State) (a : Agent) (r : Reply) : (s.answerTo a r).inbox = s.inbox := rfl
@[simp] theorem State.answerTo_waiting (s : State) (a : Agent) (r : Reply) : (s.answerTo a r).waiting = s.waiting := rfl
@[simp] theorem State.answerTo_issuer (s : State) (a : Agent) (r : Reply) : (s.answerTo a r).issuer = s.issuer := rfl
@[simp] theorem State.answerTo_replyTo (s : State) (a : Agent) (r : Reply) : (s.answerTo a r).replyTo = a := rfl
@[simp] theorem State.answerTo_reply (s : State) (a : Agent) (r : Reply) : (s.answerTo a r).reply = r := rfl
@[simp] theorem State.answerTo_linkOut (s : State) (a : Agent) (r : Reply) : (s.answerTo a r).linkOut = s.linkOut := rfl
@[simp] theorem State.answerTo_drawCount (s : State) (a : Agent) (r : Reply) : (s.answerTo a r).drawCount = s.drawCount := rfl

/-! ### State.hold -/

@[simp] theorem State.hold_rxBuf (s : State) : (s.hold).rxBuf = s.rxBuf := rfl
@[simp] theorem State.hold_tq (s : State) : (s.hold).tq = s.tq := rfl
@[simp] theorem State.hold_cq (s : State) : (s.hold).cq = s.cq := rfl
@[simp] theorem State.hold_permit (s : State) : (s.hold).permit = s.permit := rfl
@[simp] theorem State.hold_seq (s : State) : (s.hold).seq = s.seq := rfl
@[simp] theorem State.hold_txId (s : State) : (s.hold).txId = s.txId := rfl
@[simp] theorem State.hold_txData (s : State) : (s.hold).txData = s.txData := rfl
@[simp] theorem State.hold_txLen (s : State) : (s.hold).txLen = s.txLen := rfl
@[simp] theorem State.hold_sendCount (s : State) : (s.hold).sendCount = s.sendCount := rfl
@[simp] theorem State.hold_errCount (s : State) : (s.hold).errCount = s.errCount := rfl
@[simp] theorem State.hold_tqDropCount (s : State) : (s.hold).tqDropCount = s.tqDropCount := rfl
@[simp] theorem State.hold_cqDropCount (s : State) : (s.hold).cqDropCount = s.cqDropCount := rfl
@[simp] theorem State.hold_refused (s : State) : (s.hold).refused = s.refused := rfl
@[simp] theorem State.hold_schedule (s : State) : (s.hold).schedule = s.schedule := rfl
@[simp] theorem State.hold_inbox (s : State) : (s.hold).inbox = s.inbox := rfl
@[simp] theorem State.hold_waiting (s : State) : (s.hold).waiting = s.waiting := rfl
@[simp] theorem State.hold_issuer (s : State) : (s.hold).issuer = s.issuer := rfl
@[simp] theorem State.hold_replyTo (s : State) : (s.hold).replyTo = s.replyTo := rfl
@[simp] theorem State.hold_reply (s : State) : (s.hold).reply = .held := rfl
@[simp] theorem State.hold_linkOut (s : State) : (s.hold).linkOut = s.linkOut := rfl
@[simp] theorem State.hold_drawCount (s : State) : (s.hold).drawCount = s.drawCount := rfl

/-! ### State.refuse -/

@[simp] theorem State.refuse_rxBuf (s : State) : (s.refuse).rxBuf = s.rxBuf := rfl
@[simp] theorem State.refuse_tq (s : State) : (s.refuse).tq = s.tq := rfl
@[simp] theorem State.refuse_cq (s : State) : (s.refuse).cq = s.cq := rfl
@[simp] theorem State.refuse_permit (s : State) : (s.refuse).permit = s.permit := rfl
@[simp] theorem State.refuse_seq (s : State) : (s.refuse).seq = s.seq := rfl
@[simp] theorem State.refuse_txId (s : State) : (s.refuse).txId = s.txId := rfl
@[simp] theorem State.refuse_txData (s : State) : (s.refuse).txData = s.txData := rfl
@[simp] theorem State.refuse_txLen (s : State) : (s.refuse).txLen = s.txLen := rfl
@[simp] theorem State.refuse_sendCount (s : State) : (s.refuse).sendCount = s.sendCount := rfl
@[simp] theorem State.refuse_errCount (s : State) : (s.refuse).errCount = s.errCount := rfl
@[simp] theorem State.refuse_tqDropCount (s : State) : (s.refuse).tqDropCount = s.tqDropCount := rfl
@[simp] theorem State.refuse_cqDropCount (s : State) : (s.refuse).cqDropCount = s.cqDropCount := rfl
@[simp] theorem State.refuse_refused (s : State) : (s.refuse).refused = true := rfl
@[simp] theorem State.refuse_schedule (s : State) : (s.refuse).schedule = s.schedule := rfl
@[simp] theorem State.refuse_inbox (s : State) : (s.refuse).inbox = s.inbox := rfl
@[simp] theorem State.refuse_waiting (s : State) : (s.refuse).waiting = s.waiting := rfl
@[simp] theorem State.refuse_issuer (s : State) : (s.refuse).issuer = s.issuer := rfl
@[simp] theorem State.refuse_replyTo (s : State) : (s.refuse).replyTo = s.replyTo := rfl
@[simp] theorem State.refuse_reply (s : State) : (s.refuse).reply = .refused := rfl
@[simp] theorem State.refuse_linkOut (s : State) : (s.refuse).linkOut = s.linkOut := rfl
@[simp] theorem State.refuse_drawCount (s : State) : (s.refuse).drawCount = s.drawCount := rfl

/-! ### State.pushTrigger -/

@[simp] theorem State.pushTrigger_rxBuf (s : State) (t : Trig) : (s.pushTrigger t).rxBuf = s.rxBuf := rfl
@[simp] theorem State.pushTrigger_tq (s : State) (t : Trig) : (s.pushTrigger t).tq = (push Config.tqDepth s.tq t).1 := rfl
@[simp] theorem State.pushTrigger_cq (s : State) (t : Trig) : (s.pushTrigger t).cq = s.cq := rfl
@[simp] theorem State.pushTrigger_permit (s : State) (t : Trig) : (s.pushTrigger t).permit = s.permit := rfl
@[simp] theorem State.pushTrigger_seq (s : State) (t : Trig) : (s.pushTrigger t).seq = s.seq := rfl
@[simp] theorem State.pushTrigger_txId (s : State) (t : Trig) : (s.pushTrigger t).txId = s.txId := rfl
@[simp] theorem State.pushTrigger_txData (s : State) (t : Trig) : (s.pushTrigger t).txData = s.txData := rfl
@[simp] theorem State.pushTrigger_txLen (s : State) (t : Trig) : (s.pushTrigger t).txLen = s.txLen := rfl
@[simp] theorem State.pushTrigger_sendCount (s : State) (t : Trig) : (s.pushTrigger t).sendCount = s.sendCount := rfl
@[simp] theorem State.pushTrigger_errCount (s : State) (t : Trig) : (s.pushTrigger t).errCount = s.errCount := rfl
@[simp] theorem State.pushTrigger_tqDropCount (s : State) (t : Trig) : (s.pushTrigger t).tqDropCount = countDrop (push Config.tqDepth s.tq t).2 s.tqDropCount := rfl
@[simp] theorem State.pushTrigger_cqDropCount (s : State) (t : Trig) : (s.pushTrigger t).cqDropCount = s.cqDropCount := rfl
@[simp] theorem State.pushTrigger_refused (s : State) (t : Trig) : (s.pushTrigger t).refused = s.refused := rfl
@[simp] theorem State.pushTrigger_schedule (s : State) (t : Trig) : (s.pushTrigger t).schedule = s.schedule := rfl
@[simp] theorem State.pushTrigger_inbox (s : State) (t : Trig) : (s.pushTrigger t).inbox = s.inbox := rfl
@[simp] theorem State.pushTrigger_waiting (s : State) (t : Trig) : (s.pushTrigger t).waiting = s.waiting := rfl
@[simp] theorem State.pushTrigger_issuer (s : State) (t : Trig) : (s.pushTrigger t).issuer = s.issuer := rfl
@[simp] theorem State.pushTrigger_replyTo (s : State) (t : Trig) : (s.pushTrigger t).replyTo = s.replyTo := rfl
@[simp] theorem State.pushTrigger_reply (s : State) (t : Trig) : (s.pushTrigger t).reply = s.reply := rfl
@[simp] theorem State.pushTrigger_linkOut (s : State) (t : Trig) : (s.pushTrigger t).linkOut = s.linkOut := rfl
@[simp] theorem State.pushTrigger_drawCount (s : State) (t : Trig) : (s.pushTrigger t).drawCount = s.drawCount := rfl

/-! ### State.pushCommand -/

@[simp] theorem State.pushCommand_rxBuf (s : State) (m : CmdMsg) : (s.pushCommand m).rxBuf = s.rxBuf := rfl
@[simp] theorem State.pushCommand_tq (s : State) (m : CmdMsg) : (s.pushCommand m).tq = s.tq := rfl
@[simp] theorem State.pushCommand_cq (s : State) (m : CmdMsg) : (s.pushCommand m).cq = (push Config.cqDepth s.cq m).1 := rfl
@[simp] theorem State.pushCommand_permit (s : State) (m : CmdMsg) : (s.pushCommand m).permit = s.permit := rfl
@[simp] theorem State.pushCommand_seq (s : State) (m : CmdMsg) : (s.pushCommand m).seq = s.seq := rfl
@[simp] theorem State.pushCommand_txId (s : State) (m : CmdMsg) : (s.pushCommand m).txId = s.txId := rfl
@[simp] theorem State.pushCommand_txData (s : State) (m : CmdMsg) : (s.pushCommand m).txData = s.txData := rfl
@[simp] theorem State.pushCommand_txLen (s : State) (m : CmdMsg) : (s.pushCommand m).txLen = s.txLen := rfl
@[simp] theorem State.pushCommand_sendCount (s : State) (m : CmdMsg) : (s.pushCommand m).sendCount = s.sendCount := rfl
@[simp] theorem State.pushCommand_errCount (s : State) (m : CmdMsg) : (s.pushCommand m).errCount = s.errCount := rfl
@[simp] theorem State.pushCommand_tqDropCount (s : State) (m : CmdMsg) : (s.pushCommand m).tqDropCount = s.tqDropCount := rfl
@[simp] theorem State.pushCommand_cqDropCount (s : State) (m : CmdMsg) : (s.pushCommand m).cqDropCount = countDrop (push Config.cqDepth s.cq m).2 s.cqDropCount := rfl
@[simp] theorem State.pushCommand_refused (s : State) (m : CmdMsg) : (s.pushCommand m).refused = s.refused := rfl
@[simp] theorem State.pushCommand_schedule (s : State) (m : CmdMsg) : (s.pushCommand m).schedule = s.schedule := rfl
@[simp] theorem State.pushCommand_inbox (s : State) (m : CmdMsg) : (s.pushCommand m).inbox = s.inbox := rfl
@[simp] theorem State.pushCommand_waiting (s : State) (m : CmdMsg) : (s.pushCommand m).waiting = s.waiting := rfl
@[simp] theorem State.pushCommand_issuer (s : State) (m : CmdMsg) : (s.pushCommand m).issuer = s.issuer := rfl
@[simp] theorem State.pushCommand_replyTo (s : State) (m : CmdMsg) : (s.pushCommand m).replyTo = s.replyTo := rfl
@[simp] theorem State.pushCommand_reply (s : State) (m : CmdMsg) : (s.pushCommand m).reply = s.reply := rfl
@[simp] theorem State.pushCommand_linkOut (s : State) (m : CmdMsg) : (s.pushCommand m).linkOut = s.linkOut := rfl
@[simp] theorem State.pushCommand_drawCount (s : State) (m : CmdMsg) : (s.pushCommand m).drawCount = s.drawCount := rfl

/-! ### State.releasePermit -/

@[simp] theorem State.releasePermit_rxBuf (s : State) : (s.releasePermit).rxBuf = s.rxBuf := rfl
@[simp] theorem State.releasePermit_tq (s : State) : (s.releasePermit).tq = s.tq := rfl
@[simp] theorem State.releasePermit_cq (s : State) : (s.releasePermit).cq = s.cq := rfl
@[simp] theorem State.releasePermit_permit (s : State) : (s.releasePermit).permit = true := rfl
@[simp] theorem State.releasePermit_seq (s : State) : (s.releasePermit).seq = s.seq := rfl
@[simp] theorem State.releasePermit_txId (s : State) : (s.releasePermit).txId = s.txId := rfl
@[simp] theorem State.releasePermit_txData (s : State) : (s.releasePermit).txData = s.txData := rfl
@[simp] theorem State.releasePermit_txLen (s : State) : (s.releasePermit).txLen = s.txLen := rfl
@[simp] theorem State.releasePermit_sendCount (s : State) : (s.releasePermit).sendCount = s.sendCount := rfl
@[simp] theorem State.releasePermit_errCount (s : State) : (s.releasePermit).errCount = s.errCount := rfl
@[simp] theorem State.releasePermit_tqDropCount (s : State) : (s.releasePermit).tqDropCount = s.tqDropCount := rfl
@[simp] theorem State.releasePermit_cqDropCount (s : State) : (s.releasePermit).cqDropCount = s.cqDropCount := rfl
@[simp] theorem State.releasePermit_refused (s : State) : (s.releasePermit).refused = s.refused := rfl
@[simp] theorem State.releasePermit_schedule (s : State) : (s.releasePermit).schedule = s.schedule := rfl
@[simp] theorem State.releasePermit_inbox (s : State) : (s.releasePermit).inbox = s.inbox := rfl
@[simp] theorem State.releasePermit_waiting (s : State) : (s.releasePermit).waiting = s.waiting := rfl
@[simp] theorem State.releasePermit_issuer (s : State) : (s.releasePermit).issuer = s.issuer := rfl
@[simp] theorem State.releasePermit_replyTo (s : State) : (s.releasePermit).replyTo = s.replyTo := rfl
@[simp] theorem State.releasePermit_reply (s : State) : (s.releasePermit).reply = s.reply := rfl
@[simp] theorem State.releasePermit_linkOut (s : State) : (s.releasePermit).linkOut = s.linkOut := rfl
@[simp] theorem State.releasePermit_drawCount (s : State) : (s.releasePermit).drawCount = s.drawCount := rfl

/-! ### State.acceptRequest -/

@[simp] theorem State.acceptRequest_rxBuf (s : State) (i : Id29) (l : Len) (d : Bytes8) : (s.acceptRequest i l d).rxBuf = s.rxBuf := rfl
@[simp] theorem State.acceptRequest_tq (s : State) (i : Id29) (l : Len) (d : Bytes8) : (s.acceptRequest i l d).tq = s.tq := rfl
@[simp] theorem State.acceptRequest_cq (s : State) (i : Id29) (l : Len) (d : Bytes8) : (s.acceptRequest i l d).cq = s.cq := rfl
@[simp] theorem State.acceptRequest_permit (s : State) (i : Id29) (l : Len) (d : Bytes8) : (s.acceptRequest i l d).permit = false := rfl
@[simp] theorem State.acceptRequest_seq (s : State) (i : Id29) (l : Len) (d : Bytes8) : (s.acceptRequest i l d).seq = .issue := rfl
@[simp] theorem State.acceptRequest_txId (s : State) (i : Id29) (l : Len) (d : Bytes8) : (s.acceptRequest i l d).txId = i := rfl
@[simp] theorem State.acceptRequest_txData (s : State) (i : Id29) (l : Len) (d : Bytes8) : (s.acceptRequest i l d).txData = d := rfl
@[simp] theorem State.acceptRequest_txLen (s : State) (i : Id29) (l : Len) (d : Bytes8) : (s.acceptRequest i l d).txLen = l := rfl
@[simp] theorem State.acceptRequest_sendCount (s : State) (i : Id29) (l : Len) (d : Bytes8) : (s.acceptRequest i l d).sendCount = s.sendCount := rfl
@[simp] theorem State.acceptRequest_errCount (s : State) (i : Id29) (l : Len) (d : Bytes8) : (s.acceptRequest i l d).errCount = s.errCount := rfl
@[simp] theorem State.acceptRequest_tqDropCount (s : State) (i : Id29) (l : Len) (d : Bytes8) : (s.acceptRequest i l d).tqDropCount = s.tqDropCount := rfl
@[simp] theorem State.acceptRequest_cqDropCount (s : State) (i : Id29) (l : Len) (d : Bytes8) : (s.acceptRequest i l d).cqDropCount = s.cqDropCount := rfl
@[simp] theorem State.acceptRequest_refused (s : State) (i : Id29) (l : Len) (d : Bytes8) : (s.acceptRequest i l d).refused = s.refused := rfl
@[simp] theorem State.acceptRequest_schedule (s : State) (i : Id29) (l : Len) (d : Bytes8) : (s.acceptRequest i l d).schedule = s.schedule := rfl
@[simp] theorem State.acceptRequest_inbox (s : State) (i : Id29) (l : Len) (d : Bytes8) : (s.acceptRequest i l d).inbox = s.inbox := rfl
@[simp] theorem State.acceptRequest_waiting (s : State) (i : Id29) (l : Len) (d : Bytes8) : (s.acceptRequest i l d).waiting = s.waiting := rfl
@[simp] theorem State.acceptRequest_issuer (s : State) (i : Id29) (l : Len) (d : Bytes8) : (s.acceptRequest i l d).issuer = s.issuer := rfl
@[simp] theorem State.acceptRequest_replyTo (s : State) (i : Id29) (l : Len) (d : Bytes8) : (s.acceptRequest i l d).replyTo = s.replyTo := rfl
@[simp] theorem State.acceptRequest_reply (s : State) (i : Id29) (l : Len) (d : Bytes8) : (s.acceptRequest i l d).reply = s.reply := rfl
@[simp] theorem State.acceptRequest_linkOut (s : State) (i : Id29) (l : Len) (d : Bytes8) : (s.acceptRequest i l d).linkOut = s.linkOut := rfl
@[simp] theorem State.acceptRequest_drawCount (s : State) (i : Id29) (l : Len) (d : Bytes8) : (s.acceptRequest i l d).drawCount = s.drawCount := rfl

/-! ### State.issueFrame -/

@[simp] theorem State.issueFrame_rxBuf (s : State) (r : LinkResult) : (s.issueFrame r).rxBuf = s.rxBuf := rfl
@[simp] theorem State.issueFrame_tq (s : State) (r : LinkResult) : (s.issueFrame r).tq = s.tq := rfl
@[simp] theorem State.issueFrame_cq (s : State) (r : LinkResult) : (s.issueFrame r).cq = s.cq := rfl
@[simp] theorem State.issueFrame_permit (s : State) (r : LinkResult) : (s.issueFrame r).permit = s.permit := rfl
@[simp] theorem State.issueFrame_seq (s : State) (r : LinkResult) : (s.issueFrame r).seq = .wait := rfl
@[simp] theorem State.issueFrame_txId (s : State) (r : LinkResult) : (s.issueFrame r).txId = s.txId := rfl
@[simp] theorem State.issueFrame_txData (s : State) (r : LinkResult) : (s.issueFrame r).txData = s.txData := rfl
@[simp] theorem State.issueFrame_txLen (s : State) (r : LinkResult) : (s.issueFrame r).txLen = s.txLen := rfl
@[simp] theorem State.issueFrame_sendCount (s : State) (r : LinkResult) : (s.issueFrame r).sendCount = countUp s.sendCount := rfl
@[simp] theorem State.issueFrame_errCount (s : State) (r : LinkResult) : (s.issueFrame r).errCount = countFail r s.errCount := rfl
@[simp] theorem State.issueFrame_tqDropCount (s : State) (r : LinkResult) : (s.issueFrame r).tqDropCount = s.tqDropCount := rfl
@[simp] theorem State.issueFrame_cqDropCount (s : State) (r : LinkResult) : (s.issueFrame r).cqDropCount = s.cqDropCount := rfl
@[simp] theorem State.issueFrame_refused (s : State) (r : LinkResult) : (s.issueFrame r).refused = s.refused := rfl
@[simp] theorem State.issueFrame_schedule (s : State) (r : LinkResult) : (s.issueFrame r).schedule = s.schedule := rfl
@[simp] theorem State.issueFrame_inbox (s : State) (r : LinkResult) : (s.issueFrame r).inbox = s.inbox := rfl
@[simp] theorem State.issueFrame_waiting (s : State) (r : LinkResult) : (s.issueFrame r).waiting = s.waiting := rfl
@[simp] theorem State.issueFrame_issuer (s : State) (r : LinkResult) : (s.issueFrame r).issuer = s.issuer := rfl
@[simp] theorem State.issueFrame_replyTo (s : State) (r : LinkResult) : (s.issueFrame r).replyTo = s.replyTo := rfl
@[simp] theorem State.issueFrame_reply (s : State) (r : LinkResult) : (s.issueFrame r).reply = s.reply := rfl
@[simp] theorem State.issueFrame_linkOut (s : State) (r : LinkResult) : (s.issueFrame r).linkOut = s.linkOut ++ [s.latchedFrame] := rfl
@[simp] theorem State.issueFrame_drawCount (s : State) (r : LinkResult) : (s.issueFrame r).drawCount = s.drawCount := rfl

/-! ### State.endRequest -/

@[simp] theorem State.endRequest_rxBuf (s : State) : (s.endRequest).rxBuf = s.rxBuf := rfl
@[simp] theorem State.endRequest_tq (s : State) : (s.endRequest).tq = s.tq := rfl
@[simp] theorem State.endRequest_cq (s : State) : (s.endRequest).cq = s.cq := rfl
@[simp] theorem State.endRequest_permit (s : State) : (s.endRequest).permit = false := rfl
@[simp] theorem State.endRequest_seq (s : State) : (s.endRequest).seq = .idle := rfl
@[simp] theorem State.endRequest_txId (s : State) : (s.endRequest).txId = s.txId := rfl
@[simp] theorem State.endRequest_txData (s : State) : (s.endRequest).txData = s.txData := rfl
@[simp] theorem State.endRequest_txLen (s : State) : (s.endRequest).txLen = s.txLen := rfl
@[simp] theorem State.endRequest_sendCount (s : State) : (s.endRequest).sendCount = s.sendCount := rfl
@[simp] theorem State.endRequest_errCount (s : State) : (s.endRequest).errCount = s.errCount := rfl
@[simp] theorem State.endRequest_tqDropCount (s : State) : (s.endRequest).tqDropCount = s.tqDropCount := rfl
@[simp] theorem State.endRequest_cqDropCount (s : State) : (s.endRequest).cqDropCount = s.cqDropCount := rfl
@[simp] theorem State.endRequest_refused (s : State) : (s.endRequest).refused = s.refused := rfl
@[simp] theorem State.endRequest_schedule (s : State) : (s.endRequest).schedule = s.schedule := rfl
@[simp] theorem State.endRequest_inbox (s : State) : (s.endRequest).inbox = s.inbox := rfl
@[simp] theorem State.endRequest_waiting (s : State) : (s.endRequest).waiting = s.waiting := rfl
@[simp] theorem State.endRequest_issuer (s : State) : (s.endRequest).issuer = s.issuer := rfl
@[simp] theorem State.endRequest_replyTo (s : State) : (s.endRequest).replyTo = s.replyTo := rfl
@[simp] theorem State.endRequest_reply (s : State) : (s.endRequest).reply = s.reply := rfl
@[simp] theorem State.endRequest_linkOut (s : State) : (s.endRequest).linkOut = s.linkOut := rfl
@[simp] theorem State.endRequest_drawCount (s : State) : (s.endRequest).drawCount = s.drawCount := rfl

/-! ### State.latchScratch -/

@[simp] theorem State.latchScratch_rxBuf (s : State) (l : Len) (d : Bytes8) : (s.latchScratch l d).rxBuf = presentedBytes s.drawCount l d := rfl
@[simp] theorem State.latchScratch_tq (s : State) (l : Len) (d : Bytes8) : (s.latchScratch l d).tq = s.tq := rfl
@[simp] theorem State.latchScratch_cq (s : State) (l : Len) (d : Bytes8) : (s.latchScratch l d).cq = s.cq := rfl
@[simp] theorem State.latchScratch_permit (s : State) (l : Len) (d : Bytes8) : (s.latchScratch l d).permit = s.permit := rfl
@[simp] theorem State.latchScratch_seq (s : State) (l : Len) (d : Bytes8) : (s.latchScratch l d).seq = s.seq := rfl
@[simp] theorem State.latchScratch_txId (s : State) (l : Len) (d : Bytes8) : (s.latchScratch l d).txId = s.txId := rfl
@[simp] theorem State.latchScratch_txData (s : State) (l : Len) (d : Bytes8) : (s.latchScratch l d).txData = s.txData := rfl
@[simp] theorem State.latchScratch_txLen (s : State) (l : Len) (d : Bytes8) : (s.latchScratch l d).txLen = s.txLen := rfl
@[simp] theorem State.latchScratch_sendCount (s : State) (l : Len) (d : Bytes8) : (s.latchScratch l d).sendCount = s.sendCount := rfl
@[simp] theorem State.latchScratch_errCount (s : State) (l : Len) (d : Bytes8) : (s.latchScratch l d).errCount = s.errCount := rfl
@[simp] theorem State.latchScratch_tqDropCount (s : State) (l : Len) (d : Bytes8) : (s.latchScratch l d).tqDropCount = s.tqDropCount := rfl
@[simp] theorem State.latchScratch_cqDropCount (s : State) (l : Len) (d : Bytes8) : (s.latchScratch l d).cqDropCount = s.cqDropCount := rfl
@[simp] theorem State.latchScratch_refused (s : State) (l : Len) (d : Bytes8) : (s.latchScratch l d).refused = s.refused := rfl
@[simp] theorem State.latchScratch_schedule (s : State) (l : Len) (d : Bytes8) : (s.latchScratch l d).schedule = s.schedule := rfl
@[simp] theorem State.latchScratch_inbox (s : State) (l : Len) (d : Bytes8) : (s.latchScratch l d).inbox = s.inbox := rfl
@[simp] theorem State.latchScratch_waiting (s : State) (l : Len) (d : Bytes8) : (s.latchScratch l d).waiting = s.waiting := rfl
@[simp] theorem State.latchScratch_issuer (s : State) (l : Len) (d : Bytes8) : (s.latchScratch l d).issuer = s.issuer := rfl
@[simp] theorem State.latchScratch_replyTo (s : State) (l : Len) (d : Bytes8) : (s.latchScratch l d).replyTo = s.replyTo := rfl
@[simp] theorem State.latchScratch_reply (s : State) (l : Len) (d : Bytes8) : (s.latchScratch l d).reply = s.reply := rfl
@[simp] theorem State.latchScratch_linkOut (s : State) (l : Len) (d : Bytes8) : (s.latchScratch l d).linkOut = s.linkOut := rfl
@[simp] theorem State.latchScratch_drawCount (s : State) (l : Len) (d : Bytes8) : (s.latchScratch l d).drawCount = s.drawCount + 1 := rfl

/-! ### State.resetBlock -/

@[simp] theorem State.resetBlock_rxBuf (s : State) : (s.resetBlock).rxBuf = Config.resetRxBuf s.drawCount := rfl
@[simp] theorem State.resetBlock_tq (s : State) : (s.resetBlock).tq = [] := rfl
@[simp] theorem State.resetBlock_cq (s : State) : (s.resetBlock).cq = [] := rfl
@[simp] theorem State.resetBlock_permit (s : State) : (s.resetBlock).permit = Config.resetPermit s.drawCount := rfl
@[simp] theorem State.resetBlock_seq (s : State) : (s.resetBlock).seq = .idle := rfl
@[simp] theorem State.resetBlock_txId (s : State) : (s.resetBlock).txId = Config.resetTxId s.drawCount := rfl
@[simp] theorem State.resetBlock_txData (s : State) : (s.resetBlock).txData = Config.resetTxData s.drawCount := rfl
@[simp] theorem State.resetBlock_txLen (s : State) : (s.resetBlock).txLen = Config.resetTxLen s.drawCount := rfl
@[simp] theorem State.resetBlock_sendCount (s : State) : (s.resetBlock).sendCount = 0 := rfl
@[simp] theorem State.resetBlock_errCount (s : State) : (s.resetBlock).errCount = 0 := rfl
@[simp] theorem State.resetBlock_tqDropCount (s : State) : (s.resetBlock).tqDropCount = 0 := rfl
@[simp] theorem State.resetBlock_cqDropCount (s : State) : (s.resetBlock).cqDropCount = 0 := rfl
@[simp] theorem State.resetBlock_refused (s : State) : (s.resetBlock).refused = s.refused := rfl
@[simp] theorem State.resetBlock_schedule (s : State) : (s.resetBlock).schedule = s.schedule := rfl
@[simp] theorem State.resetBlock_inbox (s : State) : (s.resetBlock).inbox = s.inbox := rfl
@[simp] theorem State.resetBlock_waiting (s : State) : (s.resetBlock).waiting = [] := rfl
@[simp] theorem State.resetBlock_issuer (s : State) : (s.resetBlock).issuer = s.issuer := rfl
@[simp] theorem State.resetBlock_replyTo (s : State) : (s.resetBlock).replyTo = s.replyTo := rfl
@[simp] theorem State.resetBlock_reply (s : State) : (s.resetBlock).reply = s.reply := rfl
@[simp] theorem State.resetBlock_linkOut (s : State) : (s.resetBlock).linkOut = s.linkOut := rfl
@[simp] theorem State.resetBlock_drawCount (s : State) : (s.resetBlock).drawCount = s.drawCount + 1 := rfl

/-! ### State.begin -/

@[simp] theorem State.begin_rxBuf (s : State) (a : Agent) (as : List Agent) : (s.begin a as).rxBuf = s.rxBuf := rfl
@[simp] theorem State.begin_tq (s : State) (a : Agent) (as : List Agent) : (s.begin a as).tq = s.tq := rfl
@[simp] theorem State.begin_cq (s : State) (a : Agent) (as : List Agent) : (s.begin a as).cq = s.cq := rfl
@[simp] theorem State.begin_permit (s : State) (a : Agent) (as : List Agent) : (s.begin a as).permit = s.permit := rfl
@[simp] theorem State.begin_seq (s : State) (a : Agent) (as : List Agent) : (s.begin a as).seq = s.seq := rfl
@[simp] theorem State.begin_txId (s : State) (a : Agent) (as : List Agent) : (s.begin a as).txId = s.txId := rfl
@[simp] theorem State.begin_txData (s : State) (a : Agent) (as : List Agent) : (s.begin a as).txData = s.txData := rfl
@[simp] theorem State.begin_txLen (s : State) (a : Agent) (as : List Agent) : (s.begin a as).txLen = s.txLen := rfl
@[simp] theorem State.begin_sendCount (s : State) (a : Agent) (as : List Agent) : (s.begin a as).sendCount = s.sendCount := rfl
@[simp] theorem State.begin_errCount (s : State) (a : Agent) (as : List Agent) : (s.begin a as).errCount = s.errCount := rfl
@[simp] theorem State.begin_tqDropCount (s : State) (a : Agent) (as : List Agent) : (s.begin a as).tqDropCount = s.tqDropCount := rfl
@[simp] theorem State.begin_cqDropCount (s : State) (a : Agent) (as : List Agent) : (s.begin a as).cqDropCount = s.cqDropCount := rfl
@[simp] theorem State.begin_refused (s : State) (a : Agent) (as : List Agent) : (s.begin a as).refused = s.refused := rfl
@[simp] theorem State.begin_schedule (s : State) (a : Agent) (as : List Agent) : (s.begin a as).schedule = as := rfl
@[simp] theorem State.begin_inbox (s : State) (a : Agent) (as : List Agent) : (s.begin a as).inbox = s.inbox := rfl
@[simp] theorem State.begin_waiting (s : State) (a : Agent) (as : List Agent) : (s.begin a as).waiting = s.waiting := rfl
@[simp] theorem State.begin_issuer (s : State) (a : Agent) (as : List Agent) : (s.begin a as).issuer = a := rfl
@[simp] theorem State.begin_replyTo (s : State) (a : Agent) (as : List Agent) : (s.begin a as).replyTo = a := rfl
@[simp] theorem State.begin_reply (s : State) (a : Agent) (as : List Agent) : (s.begin a as).reply = .nothing := rfl
@[simp] theorem State.begin_linkOut (s : State) (a : Agent) (as : List Agent) : (s.begin a as).linkOut = s.linkOut := rfl
@[simp] theorem State.begin_drawCount (s : State) (a : Agent) (as : List Agent) : (s.begin a as).drawCount = s.drawCount := rfl

end Sys2Proof.Machine
end

