-- ==== Sys2Proof/Laws/Ops.lean ====
section
/-! SUPPORT. For each shared operation, what it can do, said once. -/

namespace Sys2Proof.Machine

/-! ### Lengths and payload bytes -/

theorem lenOfField_eq_some {len : BitVec 4} {l : Len} : lenOfField len = some l ↔ l.val = len.toNat := by
  unfold lenOfField
  constructor
  · intro h
    split at h
    · cases h; rfl
    · cases h
  · intro h
    have := l.isLt
    rw [dif_pos (by omega)]
    exact congrArg some (Fin.ext h.symm)

theorem lenOfField_eq_none {len : BitVec 4} : lenOfField len = none ↔ 8 < len.toNat := by
  unfold lenOfField
  split <;> simp <;> omega

theorem lenInRange_iff {len : BitVec 4} : lenInRange len = true ↔ len.toNat ≤ 8 := decide_eq_true_iff

theorem lenOfField_isSome_iff {len : BitVec 4} : (∃ l, lenOfField len = some l) ↔ lenInRange len = true := by
  rw [lenInRange_iff]
  constructor
  · rintro ⟨l, h⟩
    have := lenOfField_eq_some.1 h
    have := l.isLt
    omega
  · intro h
    exact ⟨⟨len.toNat, by omega⟩, lenOfField_eq_some.2 rfl⟩

/-- Below `len` the presented bytes are the frame's own (42_router.md R85). -/
theorem presentedBytes_of_lt {n : Nat} {l : Len} {d : Bytes8} {i : Nat} (h : i < 8) (hl : i < l.val) :
    (presentedBytes n l d)[i] = d[i] := by
  have hb : ∀ j b, j < l.val → presentedByte n l j b = b := fun j b hj => if_pos hj
  rcases i with _ | _ | _ | _ | _ | _ | _ | _ | i
  all_goals first
    | exact hb _ _ hl
    | omega

/-! ### Queues -/

/-- A push either appends or leaves a full queue as it was (43_queues.md R93). -/
theorem push_cases {α : Type} (depth : Nat) (q : List α) (v : α) :
    (q.length < depth ∧ push depth q v = (q ++ [v], true)) ∨ (depth ≤ q.length ∧ push depth q v = (q, false)) := by
  unfold push
  split
  · exact .inl ⟨‹_›, rfl⟩
  · exact .inr ⟨Nat.le_of_not_lt ‹_›, rfl⟩

@[simp] theorem push_of_lt {α : Type} {depth : Nat} {q : List α} (h : q.length < depth) (v : α) :
    push depth q v = (q ++ [v], true) := if_pos h

@[simp] theorem push_of_le {α : Type} {depth : Nat} {q : List α} (h : depth ≤ q.length) (v : α) :
    push depth q v = (q, false) := if_neg (Nat.not_lt.2 h)

/-- A push keeps the occupancy bound (43_queues.md R99). -/
theorem push_length_le {α : Type} {depth : Nat} {q : List α} (h : q.length ≤ depth) (v : α) :
    (push depth q v).1.length ≤ depth := by
  rcases push_cases depth q v with ⟨hl, e⟩ | ⟨_, e⟩
  · simpa [e] using hl
  · simpa [e] using h

/-- A push only adds at the tail. -/
theorem prefix_push {α : Type} (depth : Nat) (q : List α) (v : α) : q <+: (push depth q v).1 := by
  rcases push_cases depth q v with ⟨_, e⟩ | ⟨_, e⟩
  · exact e ▸ List.prefix_append q [v]
  · exact e ▸ List.prefix_refl q

@[simp] theorem pop_nil {α : Type} : pop ([] : List α) = none := rfl
@[simp] theorem pop_cons {α : Type} (v : α) (q : List α) : pop (v :: q) = some (v, q) := rfl

@[simp] theorem countDrop_true (c : Cnt) : countDrop true c = c := rfl
@[simp] theorem countDrop_false (c : Cnt) : countDrop false c = c + 1 := rfl
@[simp] theorem countFail_ok (c : Cnt) : countFail .ok c = c := rfl
@[simp] theorem countFail_fail (c : Cnt) : countFail .fail c = c + 1 := rfl
@[simp] theorem countUp_eq (c : Cnt) : countUp c = c + 1 := rfl

/-- A pop of a trigger holds on an empty queue and takes the head of any other (43_queues.md R94). -/
theorem popTrigger_cases (s : State) :
    (s.tq = [] ∧ s.popTrigger = s.hold) ∨
    (∃ t q, s.tq = t :: q ∧ s.popTrigger = { s with tq := q, reply := .trigger t }) := by
  unfold State.popTrigger
  cases h : s.tq with
  | nil => exact .inl ⟨rfl, rfl⟩
  | cons t q => exact .inr ⟨t, q, rfl, rfl⟩

/-- A pop of a command holds on an empty queue and takes the head of any other (43_queues.md R94). -/
theorem popCommand_cases (s : State) :
    (s.cq = [] ∧ s.popCommand = s.hold) ∨
    (∃ m q, s.cq = m :: q ∧ s.popCommand = { s with cq := q, reply := .command m }) := by
  unfold State.popCommand
  cases h : s.cq with
  | nil => exact .inl ⟨rfl, rfl⟩
  | cons m q => exact .inr ⟨m, q, rfl, rfl⟩

/-! ### The issuer -/

@[simp] theorem onlyFrom_of_eq {a : Agent} {s : State} (h : s.issuer = a) (act : State → State) :
    onlyFrom a act s = act s := if_pos h

@[simp] theorem onlyFrom_of_ne {a : Agent} {s : State} (h : s.issuer ≠ a) (act : State → State) :
    onlyFrom a act s = s.refuse := if_neg h

/-! ### The router -/

/-- The branches after the LOG branch (42_router.md R87 to R89). -/
theorem routeOther_cases (p : Config.Params) (id : Id29) (rtr : Bool) (l : Len) (s : State) :
    (idDevice id = p.configId ∧ rtr = true ∧
      routeOther p id rtr l s = s.pushTrigger (deviceTrigger p.configId)) ∨
    (¬(idDevice id = p.configId ∧ rtr = true) ∧ idDevice id ≠ 0 ∧
      routeOther p id rtr l s = s.pushCommand (s.commandFor id l)) ∨
    (¬(idDevice id = p.configId ∧ rtr = true) ∧ idDevice id = 0 ∧ routeOther p id rtr l s = s) := by
  unfold routeOther isRemoteRead
  split
  · exact .inl ⟨(‹_ ∧ _›).1, (‹_ ∧ _›).2, rfl⟩
  · split
    · exact .inr (.inl ⟨‹_›, ‹_›, rfl⟩)
    · exact .inr (.inr ⟨‹_›, not_not.1 ‹_›, rfl⟩)

/-- The whole router (42_router.md R84): the scratch latch, the LOG branch, then the other branches unless it ended there. -/
theorem routeFrame_cases (p : Config.Params) (id : Id29) (rtr : Bool) (l : Len) (d : Bytes8) (s : State) :
    (idDevice id = p.logId ∧ p.logFallthrough = true ∧
      routeFrame p id rtr l d s =
        routeOther p id rtr l ((s.latchScratch l d).pushTrigger (logTrigger (idEventCode id)))) ∨
    (idDevice id = p.logId ∧ p.logFallthrough = false ∧
      routeFrame p id rtr l d s = (s.latchScratch l d).pushTrigger (logTrigger (idEventCode id))) ∨
    (idDevice id ≠ p.logId ∧ routeFrame p id rtr l d s = routeOther p id rtr l (s.latchScratch l d)) := by
  unfold routeFrame
  by_cases h : idDevice id = p.logId
  · cases hf : p.logFallthrough <;> simp [h]
  · simp [h]

/-! ### Which transaction is taken -/

/-- The transaction taken is the agent's own, from the one list or the other, and nothing else of the state moves. -/
theorem takeRequest_cases {a : Agent} {s t : State} {r : Request} (h : s.takeRequest a = some (r, t)) :
    r.agent = a ∧
    ((s.waiting.find? (fun r => r.agent = a) = some r ∧
        t = { s with waiting := s.waiting.eraseP (fun r => r.agent = a) }) ∨
     (s.waiting.find? (fun r => r.agent = a) = none ∧ s.inbox.find? (fun r => r.agent = a) = some r ∧
        t = { s with inbox := s.inbox.eraseP (fun r => r.agent = a) })) := by
  unfold State.takeRequest at h
  split at h
  · rename_i r' hr
    cases h
    exact ⟨by simpa using List.find?_some hr, .inl ⟨hr, rfl⟩⟩
  · rename_i hn
    split at h
    · rename_i r' hr
      cases h
      exact ⟨by simpa using List.find?_some hr, .inr ⟨hn, hr, rfl⟩⟩
    · cases h

theorem insideRequest_iff {s : State} : s.insideRequest = true ↔ s.issuer = .txClient ∧ s.seq ≠ .idle := by
  simp [State.insideRequest]

/-- Only the transmit client inside its request is held back, and never from a codec operation or a refusal. -/
theorem heldBack_cases (i : Instr) (s t : State) :
    ((s.issuer = .txClient ∧ s.seq ≠ .idle) ∧ isCodec i = false ∧ t.reply ≠ .refused ∧ s.heldBack i t = s.hold) ∨
    (((s.issuer ≠ .txClient ∨ s.seq = .idle) ∨ isCodec i = true ∨ t.reply = .refused) ∧ s.heldBack i t = t) := by
  unfold State.heldBack State.insideRequest Reply.isRefused
  by_cases h₁ : s.issuer = .txClient <;> by_cases h₂ : s.seq = .idle <;> cases h₄ : isCodec i <;>
    by_cases h₃ : t.reply = .refused <;> simp [h₁, h₂, h₃]

/-- A transaction that holds is added to those that wait; any other leaves the state as it is. -/
theorem settle_cases (r : Request) (s : State) :
    (s.reply = .held ∧ s.settle r = { s with waiting := s.waiting ++ [r] }) ∨
    (s.reply ≠ .held ∧ s.settle r = s) := by
  unfold State.settle Reply.isHeld
  by_cases h : s.reply = .held <;> simp [h]

end Sys2Proof.Machine
end

