-- ==== Sys2Proof/Laws/PerInstr.lean ====
section
/-! SUPPORT. A statement about every transaction, one lemma per constructor: the word the encoder writes has the fixed bits
of its row of spec/opcode_table.json. -/

namespace Sys2Proof.Laws.FixedBits

/-- The word of a transaction is one of its row's. -/
abbrev Statement (i : Instr) : Prop := Sys2Proof.encode i &&& (rowOf i).mask = (rowOf i).pattern

/-- A mask over an assembled word is a mask over each of its parts. -/
theorem assemble_and (t t' : Trig) (x x' : BitVec 64) (id id' : Id29) (f f' : BitVec 1) (l l' o o' : BitVec 4) (z z' : BitVec 3)
    (y y' : BitVec 7) :
    (t ++ x ++ z ++ id ++ y ++ f ++ l ++ o) &&& (t' ++ x' ++ z' ++ id' ++ y' ++ f' ++ l' ++ o') =
      (t &&& t') ++ (x &&& x') ++ (z &&& z') ++ (id &&& id') ++ (y &&& y') ++ (f &&& f') ++ (l &&& l') ++ (o &&& o') := by
  simp only [BitVec.and_append]

/-- An assembled word under a mask that fixes every bit outside the operand fields it leaves free. -/
theorem assemble_under {t : Trig} {x : BitVec 64} {id : Id29} {f : BitVec 1} {l o : BitVec 4} (R : Row)
    (t' : Trig) (x' : BitVec 64) (id' : Id29) (f' : BitVec 1) (l' : BitVec 4)
    (hm : R.mask = t' ++ x' ++ 0x7#3 ++ id' ++ 0x7F#7 ++ f' ++ l' ++ 0xF#4)
    (hr : R.pattern = 0#16 ++ 0#64 ++ 0#3 ++ 0#29 ++ 0#7 ++ 0#1 ++ 0#4 ++ o)
    (ht : t &&& t' = 0) (hx : x &&& x' = 0) (hi : id &&& id' = 0) (hf : f &&& f' = 0) (hl : l &&& l' = 0) :
    assemble t x id f l o &&& R.mask = R.pattern := by
  unfold assemble
  rw [hm, hr, assemble_and, ht, hx, hi, hf, hl, show o &&& 0xF#4 = o from BitVec.and_allOnes]
  rfl

/-- The identifier field of ENCODE has its bits 28:24 zero. -/
theorem encode_id_high (d p b : Byte) : (0#5 ++ d ++ p ++ b) &&& (0x1F#5 ++ 0#8 ++ 0#8 ++ 0#8) = 0#29 := by
  simp only [BitVec.and_append, BitVec.zero_and, BitVec.and_zero]
  rfl

theorem encode (d p b : Byte) : Statement (.encode d p b) :=
  assemble_under rowEncode 0xFFFF (BitVec.allOnes 64) (0x1F#5 ++ 0#8 ++ 0#8 ++ 0#8) 1 0xF (by decide) (by decide) (by decide)
    (by decide) (encode_id_high d p b) (by decide) (by decide)

theorem decode (id : Id29) : Statement (.decode id) :=
  assemble_under rowDecode 0xFFFF (BitVec.allOnes 64) 0 1 0xF (by decide) (by decide) (by decide) (by decide) (BitVec.and_zero)
    (by decide) (by decide)

theorem filter (id : Id29) : Statement (.filter id) :=
  assemble_under rowFilter 0xFFFF (BitVec.allOnes 64) 0 1 0xF (by decide) (by decide) (by decide) (by decide) (BitVec.and_zero)
    (by decide) (by decide)

theorem evcode (id : Id29) : Statement (.evcode id) :=
  assemble_under rowEvcode 0xFFFF (BitVec.allOnes 64) 0 1 0xF (by decide) (by decide) (by decide) (by decide) (BitVec.and_zero)
    (by decide) (by decide)

theorem rxFrame (id : Id29) (rtr : Bool) (len : BitVec 4) (data : Bytes8) : Statement (.rxFrame id rtr len data) :=
  assemble_under rowRxFrame 0xFFFF 0 0 0 0 (by decide) (by decide) (by decide) BitVec.and_zero BitVec.and_zero BitVec.and_zero
    BitVec.and_zero

theorem txDone : Statement .txDone := by decide

theorem sendAccept (id : Id29) (len : BitVec 4) (data : Bytes8) : Statement (.sendAccept id len data) :=
  assemble_under rowSendAccept 0xFFFF 0 0 1 0 (by decide) (by decide) (by decide) BitVec.and_zero BitVec.and_zero (by decide)
    BitVec.and_zero

theorem sendIssue (res : LinkResult) : Statement (.sendIssue res) := by cases res <;> decide

theorem sendFinish : Statement .sendFinish := by decide

theorem pushTrig (trig : Trig) : Statement (.pushTrig trig) :=
  assemble_under rowPushTrig 0 (BitVec.allOnes 64) (BitVec.allOnes 29) 1 0xF (by decide) (by decide) BitVec.and_zero (by decide)
    (by decide) (by decide) (by decide)

theorem popTrig : Statement .popTrig := by decide

theorem popCmd : Statement .popCmd := by decide

theorem status : Statement .status := by decide

theorem reset : Statement .reset := by decide

/-- The word of every transaction has its row's fixed bits. -/
theorem all (i : Instr) : Statement i := by
  cases i with
  | encode d p b => exact encode d p b
  | decode id => exact decode id
  | filter id => exact filter id
  | evcode id => exact evcode id
  | rxFrame id rtr len data => exact rxFrame id rtr len data
  | txDone => exact txDone
  | sendAccept id len data => exact sendAccept id len data
  | sendIssue res => exact sendIssue res
  | sendFinish => exact sendFinish
  | pushTrig trig => exact pushTrig trig
  | popTrig => exact popTrig
  | popCmd => exact popCmd
  | status => exact status
  | reset => exact reset

/-- The decoder's test of the fixed bits holds of the encoder's word. -/
theorem fixedBitsOk_encode (i : Instr) : fixedBitsOk (rowOf i) (Sys2Proof.encode i) = true := beq_iff_eq.2 (all i)

end Sys2Proof.Laws.FixedBits
end

