-- ==== Sys2Proof/Laws/Router.lean ====
section
/-! SUPPORT. What the router, and the settling of a transaction, leave as it was. -/

namespace Sys2Proof.Machine

/-! ### The router writes its two queues, their drop counters and the scratch buffer, and nothing else -/

section
variable (p : Config.Params) (id : Id29) (rtr : Bool) (l : Len) (d : Bytes8) (s : State)

@[simp] theorem routeOther_permit : (routeOther p id rtr l s).permit = s.permit := by
  rcases routeOther_cases p id rtr l s with ⟨_, _, h⟩ | ⟨_, _, h⟩ | ⟨_, _, h⟩ <;> simp [h]

@[simp] theorem routeOther_seq : (routeOther p id rtr l s).seq = s.seq := by
  rcases routeOther_cases p id rtr l s with ⟨_, _, h⟩ | ⟨_, _, h⟩ | ⟨_, _, h⟩ <;> simp [h]

@[simp] theorem routeOther_txId : (routeOther p id rtr l s).txId = s.txId := by
  rcases routeOther_cases p id rtr l s with ⟨_, _, h⟩ | ⟨_, _, h⟩ | ⟨_, _, h⟩ <;> simp [h]

@[simp] theorem routeOther_txData : (routeOther p id rtr l s).txData = s.txData := by
  rcases routeOther_cases p id rtr l s with ⟨_, _, h⟩ | ⟨_, _, h⟩ | ⟨_, _, h⟩ <;> simp [h]

@[simp] theorem routeOther_txLen : (routeOther p id rtr l s).txLen = s.txLen := by
  rcases routeOther_cases p id rtr l s with ⟨_, _, h⟩ | ⟨_, _, h⟩ | ⟨_, _, h⟩ <;> simp [h]

@[simp] theorem routeOther_sendCount : (routeOther p id rtr l s).sendCount = s.sendCount := by
  rcases routeOther_cases p id rtr l s with ⟨_, _, h⟩ | ⟨_, _, h⟩ | ⟨_, _, h⟩ <;> simp [h]

@[simp] theorem routeOther_errCount : (routeOther p id rtr l s).errCount = s.errCount := by
  rcases routeOther_cases p id rtr l s with ⟨_, _, h⟩ | ⟨_, _, h⟩ | ⟨_, _, h⟩ <;> simp [h]

@[simp] theorem routeOther_refused : (routeOther p id rtr l s).refused = s.refused := by
  rcases routeOther_cases p id rtr l s with ⟨_, _, h⟩ | ⟨_, _, h⟩ | ⟨_, _, h⟩ <;> simp [h]

@[simp] theorem routeOther_schedule : (routeOther p id rtr l s).schedule = s.schedule := by
  rcases routeOther_cases p id rtr l s with ⟨_, _, h⟩ | ⟨_, _, h⟩ | ⟨_, _, h⟩ <;> simp [h]

@[simp] theorem routeOther_inbox : (routeOther p id rtr l s).inbox = s.inbox := by
  rcases routeOther_cases p id rtr l s with ⟨_, _, h⟩ | ⟨_, _, h⟩ | ⟨_, _, h⟩ <;> simp [h]

@[simp] theorem routeOther_waiting : (routeOther p id rtr l s).waiting = s.waiting := by
  rcases routeOther_cases p id rtr l s with ⟨_, _, h⟩ | ⟨_, _, h⟩ | ⟨_, _, h⟩ <;> simp [h]

@[simp] theorem routeOther_issuer : (routeOther p id rtr l s).issuer = s.issuer := by
  rcases routeOther_cases p id rtr l s with ⟨_, _, h⟩ | ⟨_, _, h⟩ | ⟨_, _, h⟩ <;> simp [h]

@[simp] theorem routeOther_replyTo : (routeOther p id rtr l s).replyTo = s.replyTo := by
  rcases routeOther_cases p id rtr l s with ⟨_, _, h⟩ | ⟨_, _, h⟩ | ⟨_, _, h⟩ <;> simp [h]

@[simp] theorem routeOther_reply : (routeOther p id rtr l s).reply = s.reply := by
  rcases routeOther_cases p id rtr l s with ⟨_, _, h⟩ | ⟨_, _, h⟩ | ⟨_, _, h⟩ <;> simp [h]

@[simp] theorem routeOther_linkOut : (routeOther p id rtr l s).linkOut = s.linkOut := by
  rcases routeOther_cases p id rtr l s with ⟨_, _, h⟩ | ⟨_, _, h⟩ | ⟨_, _, h⟩ <;> simp [h]

@[simp] theorem routeOther_rxBuf : (routeOther p id rtr l s).rxBuf = s.rxBuf := by
  rcases routeOther_cases p id rtr l s with ⟨_, _, h⟩ | ⟨_, _, h⟩ | ⟨_, _, h⟩ <;> simp [h]

@[simp] theorem routeOther_drawCount : (routeOther p id rtr l s).drawCount = s.drawCount := by
  rcases routeOther_cases p id rtr l s with ⟨_, _, h⟩ | ⟨_, _, h⟩ | ⟨_, _, h⟩ <;> simp [h]

@[simp] theorem routeFrame_permit : (routeFrame p id rtr l d s).permit = s.permit := by
  rcases routeFrame_cases p id rtr l d s with ⟨_, _, h⟩ | ⟨_, _, h⟩ | ⟨_, h⟩ <;> simp [h]

@[simp] theorem routeFrame_seq : (routeFrame p id rtr l d s).seq = s.seq := by
  rcases routeFrame_cases p id rtr l d s with ⟨_, _, h⟩ | ⟨_, _, h⟩ | ⟨_, h⟩ <;> simp [h]

@[simp] theorem routeFrame_txId : (routeFrame p id rtr l d s).txId = s.txId := by
  rcases routeFrame_cases p id rtr l d s with ⟨_, _, h⟩ | ⟨_, _, h⟩ | ⟨_, h⟩ <;> simp [h]

@[simp] theorem routeFrame_txData : (routeFrame p id rtr l d s).txData = s.txData := by
  rcases routeFrame_cases p id rtr l d s with ⟨_, _, h⟩ | ⟨_, _, h⟩ | ⟨_, h⟩ <;> simp [h]

@[simp] theorem routeFrame_txLen : (routeFrame p id rtr l d s).txLen = s.txLen := by
  rcases routeFrame_cases p id rtr l d s with ⟨_, _, h⟩ | ⟨_, _, h⟩ | ⟨_, h⟩ <;> simp [h]

@[simp] theorem routeFrame_sendCount : (routeFrame p id rtr l d s).sendCount = s.sendCount := by
  rcases routeFrame_cases p id rtr l d s with ⟨_, _, h⟩ | ⟨_, _, h⟩ | ⟨_, h⟩ <;> simp [h]

@[simp] theorem routeFrame_errCount : (routeFrame p id rtr l d s).errCount = s.errCount := by
  rcases routeFrame_cases p id rtr l d s with ⟨_, _, h⟩ | ⟨_, _, h⟩ | ⟨_, h⟩ <;> simp [h]

@[simp] theorem routeFrame_refused : (routeFrame p id rtr l d s).refused = s.refused := by
  rcases routeFrame_cases p id rtr l d s with ⟨_, _, h⟩ | ⟨_, _, h⟩ | ⟨_, h⟩ <;> simp [h]

@[simp] theorem routeFrame_schedule : (routeFrame p id rtr l d s).schedule = s.schedule := by
  rcases routeFrame_cases p id rtr l d s with ⟨_, _, h⟩ | ⟨_, _, h⟩ | ⟨_, h⟩ <;> simp [h]

@[simp] theorem routeFrame_inbox : (routeFrame p id rtr l d s).inbox = s.inbox := by
  rcases routeFrame_cases p id rtr l d s with ⟨_, _, h⟩ | ⟨_, _, h⟩ | ⟨_, h⟩ <;> simp [h]

@[simp] theorem routeFrame_waiting : (routeFrame p id rtr l d s).waiting = s.waiting := by
  rcases routeFrame_cases p id rtr l d s with ⟨_, _, h⟩ | ⟨_, _, h⟩ | ⟨_, h⟩ <;> simp [h]

@[simp] theorem routeFrame_issuer : (routeFrame p id rtr l d s).issuer = s.issuer := by
  rcases routeFrame_cases p id rtr l d s with ⟨_, _, h⟩ | ⟨_, _, h⟩ | ⟨_, h⟩ <;> simp [h]

@[simp] theorem routeFrame_replyTo : (routeFrame p id rtr l d s).replyTo = s.replyTo := by
  rcases routeFrame_cases p id rtr l d s with ⟨_, _, h⟩ | ⟨_, _, h⟩ | ⟨_, h⟩ <;> simp [h]

@[simp] theorem routeFrame_reply : (routeFrame p id rtr l d s).reply = s.reply := by
  rcases routeFrame_cases p id rtr l d s with ⟨_, _, h⟩ | ⟨_, _, h⟩ | ⟨_, h⟩ <;> simp [h]

@[simp] theorem routeFrame_linkOut : (routeFrame p id rtr l d s).linkOut = s.linkOut := by
  rcases routeFrame_cases p id rtr l d s with ⟨_, _, h⟩ | ⟨_, _, h⟩ | ⟨_, h⟩ <;> simp [h]

@[simp] theorem routeFrame_rxBuf : (routeFrame p id rtr l d s).rxBuf = presentedBytes s.drawCount l d := by
  rcases routeFrame_cases p id rtr l d s with ⟨_, _, h⟩ | ⟨_, _, h⟩ | ⟨_, h⟩ <;> simp [h]

@[simp] theorem routeFrame_drawCount : (routeFrame p id rtr l d s).drawCount = s.drawCount + 1 := by
  rcases routeFrame_cases p id rtr l d s with ⟨_, _, h⟩ | ⟨_, _, h⟩ | ⟨_, h⟩ <;> simp [h]

end

/-! ### Settling writes the list of waiting transactions alone -/

section
variable (r : Request) (s : State)

@[simp] theorem settle_rxBuf : (s.settle r).rxBuf = s.rxBuf := by
  rcases settle_cases r s with ⟨_, h⟩ | ⟨_, h⟩ <;> rw [h]

@[simp] theorem settle_tq : (s.settle r).tq = s.tq := by
  rcases settle_cases r s with ⟨_, h⟩ | ⟨_, h⟩ <;> rw [h]

@[simp] theorem settle_cq : (s.settle r).cq = s.cq := by
  rcases settle_cases r s with ⟨_, h⟩ | ⟨_, h⟩ <;> rw [h]

@[simp] theorem settle_permit : (s.settle r).permit = s.permit := by
  rcases settle_cases r s with ⟨_, h⟩ | ⟨_, h⟩ <;> rw [h]

@[simp] theorem settle_seq : (s.settle r).seq = s.seq := by
  rcases settle_cases r s with ⟨_, h⟩ | ⟨_, h⟩ <;> rw [h]

@[simp] theorem settle_txId : (s.settle r).txId = s.txId := by
  rcases settle_cases r s with ⟨_, h⟩ | ⟨_, h⟩ <;> rw [h]

@[simp] theorem settle_txData : (s.settle r).txData = s.txData := by
  rcases settle_cases r s with ⟨_, h⟩ | ⟨_, h⟩ <;> rw [h]

@[simp] theorem settle_txLen : (s.settle r).txLen = s.txLen := by
  rcases settle_cases r s with ⟨_, h⟩ | ⟨_, h⟩ <;> rw [h]

@[simp] theorem settle_sendCount : (s.settle r).sendCount = s.sendCount := by
  rcases settle_cases r s with ⟨_, h⟩ | ⟨_, h⟩ <;> rw [h]

@[simp] theorem settle_errCount : (s.settle r).errCount = s.errCount := by
  rcases settle_cases r s with ⟨_, h⟩ | ⟨_, h⟩ <;> rw [h]

@[simp] theorem settle_tqDropCount : (s.settle r).tqDropCount = s.tqDropCount := by
  rcases settle_cases r s with ⟨_, h⟩ | ⟨_, h⟩ <;> rw [h]

@[simp] theorem settle_cqDropCount : (s.settle r).cqDropCount = s.cqDropCount := by
  rcases settle_cases r s with ⟨_, h⟩ | ⟨_, h⟩ <;> rw [h]

@[simp] theorem settle_refused : (s.settle r).refused = s.refused := by
  rcases settle_cases r s with ⟨_, h⟩ | ⟨_, h⟩ <;> rw [h]

@[simp] theorem settle_schedule : (s.settle r).schedule = s.schedule := by
  rcases settle_cases r s with ⟨_, h⟩ | ⟨_, h⟩ <;> rw [h]

@[simp] theorem settle_inbox : (s.settle r).inbox = s.inbox := by
  rcases settle_cases r s with ⟨_, h⟩ | ⟨_, h⟩ <;> rw [h]

@[simp] theorem settle_issuer : (s.settle r).issuer = s.issuer := by
  rcases settle_cases r s with ⟨_, h⟩ | ⟨_, h⟩ <;> rw [h]

@[simp] theorem settle_replyTo : (s.settle r).replyTo = s.replyTo := by
  rcases settle_cases r s with ⟨_, h⟩ | ⟨_, h⟩ <;> rw [h]

@[simp] theorem settle_reply : (s.settle r).reply = s.reply := by
  rcases settle_cases r s with ⟨_, h⟩ | ⟨_, h⟩ <;> rw [h]

@[simp] theorem settle_linkOut : (s.settle r).linkOut = s.linkOut := by
  rcases settle_cases r s with ⟨_, h⟩ | ⟨_, h⟩ <;> rw [h]

@[simp] theorem settle_drawCount : (s.settle r).drawCount = s.drawCount := by
  rcases settle_cases r s with ⟨_, h⟩ | ⟨_, h⟩ <;> rw [h]

end

end Sys2Proof.Machine
end

