-- ==== Sys2Proof/Laws/Step.lean ====
section
/-! SUPPORT. What a transaction can do and what a step can do, each said once. -/

namespace Sys2Proof.Machine

open Sys2Proof.Safety

/-- Everything a transaction can do: it is refused, it holds, or it moves in one of these ways. -/
inductive Moves : Instr → State → State → Prop where
  /-- Refused (30_encoding.md R62). -/
  | refused (i : Instr) (s : State) (hr : s.issuer ∉ allowed i ∨ i.wellFormed = false) : Moves i s s.refuse
  /-- Held (00_scope.md R10). -/
  | held (i : Instr) (s : State) (hi : s.issuer ∈ allowed i) (hb : Blocked i s) : Moves i s s.hold
  /-- 40_codec.md R66. -/
  | encode (d p b : Byte) (s : State) : Moves (.encode d p b) s (s.answer (.identifier (packAddress ⟨d, p, b⟩)))
  /-- 40_codec.md R67. -/
  | decode (id : Id29) (s : State) : Moves (.decode id) s (s.answer (.address (unpackAddress id)))
  /-- 40_codec.md R68. -/
  | filter (id : Id29) (s : State) : Moves (.filter id) s (s.answer (.identifier (stripLowByte id)))
  /-- 40_codec.md R69. -/
  | evcode (id : Id29) (s : State) : Moves (.evcode id) s (s.answer (.eventCode (idEventCode id)))
  /-- 42_router.md R84. -/
  | rxFrame (id : Id29) (rtr : Bool) (len : BitVec 4) (l : Len) (data : Bytes8) (s : State)
      (hi : s.issuer = .linkEnv) (hl : lenOfField len = some l) :
      Moves (.rxFrame id rtr len data) s ((routeFrame Config.params id rtr l data s).answer .done)
  /-- 41_tx_sequencer.md R77. -/
  | txDone (s : State) (hi : s.issuer = .linkEnv) : Moves .txDone s (s.releasePermit.answer .done)
  /-- 41_tx_sequencer.md R74. -/
  | sendAccept (id : Id29) (len : BitVec 4) (l : Len) (data : Bytes8) (s : State)
      (hi : s.issuer = .txClient) (hl : lenOfField len = some l) (hq : s.seq = .idle) :
      Moves (.sendAccept id len data) s ((s.acceptRequest id l data).answer .done)
  /-- 41_tx_sequencer.md R75. -/
  | sendIssue (res : LinkResult) (s : State) (hi : s.issuer = .sequencer) (hq : s.seq = .issue) :
      Moves (.sendIssue res) s ((s.issueFrame res).answer .done)
  /-- 41_tx_sequencer.md R76. -/
  | sendFinish (s : State) (hi : s.issuer = .sequencer) (hq : s.seq = .wait) (hp : s.permit = true) :
      Moves .sendFinish s (s.endRequest.answerTo .txClient .sendReturned)
  /-- 43_queues.md R95. -/
  | pushTrig (t : Trig) (s : State) (hi : s.issuer = .cmdClient) :
      Moves (.pushTrig t) s ((s.pushTrigger t).answer (.accepted s.tqAccepts))
  /-- 43_queues.md R96. -/
  | popTrig (t : Trig) (q : List Trig) (s : State) (hi : s.issuer = .txClient) (hq : s.tq = t :: q) :
      Moves .popTrig s { s with tq := q, reply := .trigger t }
  /-- 43_queues.md R97. -/
  | popCmd (m : CmdMsg) (q : List CmdMsg) (s : State) (hi : s.issuer = .cmdClient) (hq : s.cq = m :: q) :
      Moves .popCmd s { s with cq := q, reply := .command m }
  /-- 43_queues.md R98. -/
  | status (s : State) : Moves .status s (s.answer (.status s.statusRecord))
  /-- 70_reset_and_hazards.md R114. -/
  | reset (s : State) (hi : s.issuer = .platform) : Moves .reset s (s.resetBlock.answer .done)

/-- A transaction that one agent alone may issue: refused from any other, else as `act` says. -/
theorem moves_onlyFrom {i : Instr} {s : State} {a : Agent} {act : State → State} (hal : allowed i = [a])
    (h : s.issuer = a → Moves i s (act s)) : Moves i s (onlyFrom a act s) := by
  by_cases hi : s.issuer = a
  · rw [onlyFrom_of_eq hi]
    exact h hi
  · rw [onlyFrom_of_ne hi]
    exact .refused i s (.inl (by simp [hal, hi]))

/-- A `len` field that spells no `Len` is out of range. -/
theorem lenInRange_of_none {len : BitVec 4} (h : lenOfField len = none) : lenInRange len = false := by
  have := lenOfField_eq_none.1 h
  exact decide_eq_false (show ¬ len.toNat ≤ 8 by omega)

/-- Every transaction answers a next state, in one of the ways `Moves` lists. -/
theorem exec_moves (i : Instr) (s : State) : ∃ t, exec i s = .next t ∧ Moves i s t := by
  cases i with
  | encode d p b => exact ⟨_, rfl, .encode d p b s⟩
  | decode id => exact ⟨_, rfl, .decode id s⟩
  | filter id => exact ⟨_, rfl, .filter id s⟩
  | evcode id => exact ⟨_, rfl, .evcode id s⟩
  | rxFrame id rtr len data =>
    refine ⟨_, rfl, moves_onlyFrom rfl fun hi => ?_⟩
    split
    · exact .refused _ s (.inr (lenInRange_of_none ‹_›))
    · exact .rxFrame id rtr len _ data s hi ‹_›
  | txDone => exact ⟨_, rfl, moves_onlyFrom rfl fun hi => .txDone s hi⟩
  | sendAccept id len data =>
    refine ⟨_, rfl, moves_onlyFrom rfl fun hi => ?_⟩
    split
    · exact .refused _ s (.inr (lenInRange_of_none ‹_›))
    · split
      · exact .sendAccept id len _ data s hi ‹_› ‹_›
      · exact .held _ s (by simp [allowed, hi]) ‹_›
  | sendIssue res =>
    refine ⟨_, rfl, moves_onlyFrom rfl fun hi => ?_⟩
    split
    · exact .sendIssue res s hi ‹_›
    · exact .held _ s (by simp [allowed, hi]) ‹_›
  | sendFinish =>
    refine ⟨_, rfl, moves_onlyFrom rfl fun hi => ?_⟩
    split
    · exact .sendFinish s hi (‹_ ∧ _›).1 (‹_ ∧ _›).2
    · exact .held _ s (by simp [allowed, hi]) ‹_›
  | pushTrig t => exact ⟨_, rfl, moves_onlyFrom rfl fun hi => .pushTrig t s hi⟩
  | popTrig =>
    refine ⟨_, rfl, moves_onlyFrom rfl fun hi => ?_⟩
    rcases popTrigger_cases s with ⟨h, e⟩ | ⟨t, q, h, e⟩
    · exact e ▸ .held _ s (by simp [allowed, hi]) h
    · exact e ▸ .popTrig t q s hi h
  | popCmd =>
    refine ⟨_, rfl, moves_onlyFrom rfl fun hi => ?_⟩
    rcases popCommand_cases s with ⟨h, e⟩ | ⟨m, q, h, e⟩
    · exact e ▸ .held _ s (by simp [allowed, hi]) h
    · exact e ▸ .popCmd m q s hi h
  | status => exact ⟨_, rfl, .status s⟩
  | reset => exact ⟨_, rfl, moves_onlyFrom rfl fun hi => .reset s hi⟩

theorem moves_of_exec {i : Instr} {s t : State} (h : exec i s = .next t) : Moves i s t := by
  obtain ⟨u, hu, hm⟩ := exec_moves i s
  rw [h] at hu
  cases hu
  exact hm

/-- Everything an agent's transaction can do: the transmit client inside its request holds, unless it is refused or
evaluates a codec operation, and any other transaction moves as it does. -/
inductive Issues (i : Instr) (s : State) : State → Prop where
  /-- Held inside the request (41_tx_sequencer.md R74). -/
  | blocked (hi : s.issuer = .txClient) (hq : s.seq ≠ .idle) (hc : isCodec i = false) : Issues i s s.hold
  /-- The transaction's own meaning. -/
  | moves (t : State) (hf : (s.issuer ≠ .txClient ∨ s.seq = .idle) ∨ isCodec i = true ∨ t.reply = .refused)
      (hm : Moves i s t) : Issues i s t

/-- Every transaction an agent issues answers a next state, in one of the ways `Issues` lists. -/
theorem issue_cases (i : Instr) (s : State) : ∃ t, issue i s = .next t ∧ Issues i s t := by
  obtain ⟨t, ht, hm⟩ := exec_moves i s
  refine ⟨s.heldBack i t, by simp [issue, ht], ?_⟩
  rcases heldBack_cases i s t with ⟨⟨hi, hq⟩, hc, -, h⟩ | ⟨hf, h⟩
  · rw [h]
    exact .blocked hi hq hc
  · rw [h]
    exact .moves t hf hm

/-- Outside the transmit client's request, and of a codec operation anywhere, an agent's transaction is its meaning. -/
theorem issue_eq_exec {i : Instr} {s : State} (h : (s.issuer ≠ .txClient ∨ s.seq = .idle) ∨ isCodec i = true) :
    issue i s = exec i s := by
  obtain ⟨t, ht, -⟩ := exec_moves i s
  rcases heldBack_cases i s t with ⟨⟨hi, hq⟩, hc, -⟩ | ⟨-, hb⟩
  · exact absurd h (by simp [hi, hq, hc])
  · simp [issue, ht, hb]

/-- What a request taken off its list becomes: refused for its bits, or what its transaction makes of the state, settled. -/
theorem perform_cases (r : Request) (s : State) :
    (∃ e, decode r.word = .error e ∧ perform r s = .next s.refuse) ∨
    (∃ i t, decode r.word = .ok i ∧ Issues i s t ∧ perform r s = .next (t.settle r)) := by
  unfold perform
  cases hd : decode r.word with
  | error e => exact .inl ⟨e, rfl, rfl⟩
  | ok i =>
    obtain ⟨t, ht, hm⟩ := issue_cases i s
    exact .inr ⟨i, t, rfl, hm, by simp [ht]⟩

/-- Everything a step can do. -/
theorem step_cases (s : State) :
    (s.schedule = [] ∧ step s = .next (s.answer .nothing)) ∨
    (∃ a rest, s.schedule = a :: rest ∧ (s.begin a rest).takeRequest a = none ∧ step s = .next (s.begin a rest)) ∨
    (∃ a rest r u, s.schedule = a :: rest ∧ (s.begin a rest).takeRequest a = some (r, u) ∧ step s = perform r u) := by
  unfold step
  cases h : s.schedule with
  | nil => exact .inl ⟨rfl, rfl⟩
  | cons a rest =>
    cases hq : (s.begin a rest).takeRequest a with
    | none => exact .inr (.inl ⟨a, rest, rfl, hq, by simp [hq]⟩)
    | some x => exact .inr (.inr ⟨a, rest, x.1, x.2, rfl, hq, by simp [hq]⟩)

end Sys2Proof.Machine
end

