-- ==== Sys2Proof/Laws/Runs.lean ====
section
/-! SUPPORT. Turns and runs: a turn is one transaction of the state in which the agent is the issuer. -/

namespace Sys2Proof.Safety

open Sys2Proof.Machine

/-- A turn is a transaction issued in the state in which its agent issues and nothing is answered yet. -/
theorem take_issues (e : Turn) (s : State) :
    Issues e.2 { s with issuer := e.1, replyTo := e.1, reply := .nothing } (take e s) := by
  obtain ⟨t, ht, hm⟩ := issue_cases e.2 { s with issuer := e.1, replyTo := e.1, reply := .nothing }
  unfold take
  rw [ht]
  exact hm

@[simp] theorem runTurns_nil (s : State) : runTurns [] s = s := rfl
@[simp] theorem runTurns_cons (e : Turn) (es : List Turn) (s : State) :
    runTurns (e :: es) s = runTurns es (take e s) := rfl

theorem noReset_cons {e : Turn} {es : List Turn} : NoReset (e :: es) ↔ e ≠ (.platform, .reset) ∧ NoReset es :=
  List.forall_mem_cons

theorem noCompletion_cons {e : Turn} {es : List Turn} :
    NoCompletion (e :: es) ↔ e ≠ (.linkEnv, .txDone) ∧ NoCompletion es :=
  List.forall_mem_cons

end Sys2Proof.Safety
end

