-- ==== Sys2Proof/Tests/Slice0.lean ====
section
/-! SUPPORT. Small tests, each on one transaction or one step, and one witness per statement with hypotheses. Expected
results are those of spec/95_test_vectors.md (the vector's id stands in the name or the docstring) or read off the rule. -/

namespace Sys2Proof.Tests

open Sys2Proof.Machine Sys2Proof.Safety

/-! ### Helpers -/

/-- Eight zero bytes. -/
def zeros : Bytes8 := #v[0, 0, 0, 0, 0, 0, 0, 0]

/-- The bytes 0x61 to 0x68, "abcdefgh". -/
def letters : Bytes8 := #v[0x61, 0x62, 0x63, 0x64, 0x65, 0x66, 0x67, 0x68]

/-- The reset state with agent `a` issuing. -/
def issuedBy (a : Agent) : State := { State.reset with issuer := a }

/-- The reset state with `n` triggers queued. -/
def withTriggers (n : Nat) (s : State) : State := { s with tq := List.replicate n 0x0055 }

/-- A command message for the tests. -/
def someCommand : CmdMsg := ⟨0x05, 0x01, 0x02, 8, letters⟩

/-- The reset state with `n` command messages queued. -/
def withCommands (n : Nat) (s : State) : State := { s with cq := List.replicate n someCommand }

/-- The example parameter values of spec/95_test_vectors.md. -/
def example70 (fallthrough : Bool) : Config.Params := ⟨0x70, 0x71, fallthrough⟩

/-- The coinciding parameters of spec/95_test_vectors.md. -/
def example72 : Config.Params := ⟨0x72, 0x72, true⟩

/-- A state in which agent `a` is scheduled and presents the word `w`. -/
def presenting (a : Agent) (w : Word) : State := { State.reset with schedule := [a], inbox := [⟨a, w⟩] }

/-! ### Ill-formed terms are refused by the check (30_encoding.md R62) -/

theorem test_wellFormed_rxFrame_len9 : (Instr.rxFrame 0 false 9 zeros).wellFormed = false := by decide
theorem test_wellFormed_sendAccept_len15 : (Instr.sendAccept 0 15 zeros).wellFormed = false := by decide
theorem test_wellFormed_rxFrame_len8 : (Instr.rxFrame 0 false 8 zeros).wellFormed = true := by decide

/-! ### Decoding: words written out from R61, spec/95_test_vectors.md sections 2.1 to 2.5 -/

/-- V-C3. -/
theorem test_decode_encode : decode 0x00000000000000000000001234560001 = .ok (.encode 0x12 0x34 0x56) := by decide
/-- V-C9. -/
theorem test_decode_decode : decode 0x0000000000000000_00001F1234560002 = .ok (.decode 0x1F123456) := by decide
/-- V-C14. -/
theorem test_decode_filter : decode 0x0000000000000000_00001FABCDEF0003 = .ok (.filter 0x1FABCDEF) := by decide
/-- V-C17. -/
theorem test_decode_evcode : decode 0x0000000000000000_0000007000330004 = .ok (.evcode 0x00700033) := by decide
/-- V-R3: the request flag at bit 8, the length at 7:4, data byte 1 above data byte 0. -/
theorem test_decode_rxFrame_remote : decode 0x00000000000000000201007100000125 =
    .ok (.rxFrame 0x00710000 true 2 #v[0x01, 0x02, 0, 0, 0, 0, 0, 0]) := by decide
/-- V-R4: all eight data bytes. -/
theorem test_decode_rxFrame_full : decode 0x00006867666564636261007103000085 =
    .ok (.rxFrame 0x00710300 false 8 letters) := by decide
theorem test_decode_txDone : decode 0x6 = .ok .txDone := by decide
/-- V-S1. -/
theorem test_decode_sendAccept : decode 0x0000000000000000_BBAA000500000027 =
    .ok (.sendAccept 0x00050000 2 #v[0xAA, 0xBB, 0, 0, 0, 0, 0, 0]) := by decide
/-- V-S1, V-S3. -/
theorem test_decode_sendIssue : decode 0x8 = .ok (.sendIssue .ok) ∧ decode 0x108 = .ok (.sendIssue .fail) := by decide
theorem test_decode_sendFinish : decode 0x9 = .ok .sendFinish := by decide
/-- V-Q1. -/
theorem test_decode_pushTrig : decode 0x0200000000000000000000000000000A = .ok (.pushTrig 0x0200) := by decide
theorem test_decode_popTrig : decode 0xB = .ok .popTrig := by decide
theorem test_decode_popCmd : decode 0xC = .ok .popCmd := by decide
theorem test_decode_status : decode 0xD = .ok .status := by decide
theorem test_decode_reset : decode 0xF = .ok .reset := by decide

/-- Section 2.5: the reserved selectors. -/
theorem test_decode_reserved_op : decode 0x0 = .error (.reservedOp 0x0) ∧ decode 0xE = .error (.reservedOp 0xE) := by
  decide
/-- Section 2.5: TX_DONE with bit 9 and with bit 8 set. -/
theorem test_decode_reserved_bits : decode 0x206 = .error (.reservedBits "TX_DONE") ∧
    decode 0x106 = .error (.reservedBits "TX_DONE") := by decide
/-- Section 2.5: DECODE with bit 45 set, ENCODE with bit 40 set. -/
theorem test_decode_reserved_high : decode 0x00002000_00000002 = .error (.reservedBits "DECODE") ∧
    decode 0x00000100_00000001 = .error (.reservedBits "ENCODE") := by decide
/-- V-S9. -/
theorem test_decode_len9 : decode 0x00000005_00010097 = .error (.lenOutOfRange "SEND_ACCEPT" 9) := by decide

/-- The encoder writes V-R4's word. -/
theorem test_encode_rxFrame : encode (.rxFrame 0x00710300 false 8 letters) = 0x00006867666564636261007103000085 := by
  decide
/-- The encoder writes P1 step 14's word. -/
theorem test_encode_sendAccept : encode (.sendAccept 0x00050002 4 #v[0x30, 0x31, 0x32, 0x33, 0, 0, 0, 0]) =
    0x00000000000033323130000500020047 := by decide

/-! ### The codec, section 2.1 -/

/-- V-C3. -/
theorem test_encode : (take (.txClient, .encode 0x12 0x34 0x56) State.reset).reply = .identifier 0x00123456 := by decide
/-- V-C2. -/
theorem test_encode_largest : (take (.linkEnv, .encode 0xFF 0xFF 0xFF) State.reset).reply = .identifier 0x00FFFFFF := by
  decide
/-- V-C9: bits 28:24 ignored. -/
theorem test_decode_alias : (take (.cmdClient, .decode 0x1F123456) State.reset).reply = .address ⟨0x12, 0x34, 0x56⟩ := by
  decide
/-- V-C12. -/
theorem test_decode_bit24 : (take (.platform, .decode 0x01000000) State.reset).reply = .address ⟨0, 0, 0⟩ := by decide
/-- V-C14: bits 28:24 kept. -/
theorem test_filter : (take (.txClient, .filter 0x1FABCDEF) State.reset).reply = .identifier 0x1FABCD00 := by decide
/-- V-C18. -/
theorem test_evcode : (take (.eventHandler, .evcode 0x1F7000FF) State.reset).reply = .eventCode 0xFF := by decide

/-! ### The router, section 2.2 -/

/-- V-R5a: with fall-through the LOG frame is also a command. -/
theorem test_route_log_through :
    (routeFrame (example70 true) 0x00700033 false 0 zeros State.reset).tq = [0x0133] ∧
    (routeFrame (example70 true) 0x00700033 false 0 zeros State.reset).cq.map CmdMsg.device = [0x70] := by decide
/-- V-R5b: without it, it is not. -/
theorem test_route_log_ends :
    (routeFrame (example70 false) 0x00700033 false 0 zeros State.reset).tq = [0x0133] ∧
    (routeFrame (example70 false) 0x00700033 false 0 zeros State.reset).cq = [] := by decide
/-- V-R3 and V-R8: a remote read of CONFIG, by its bits 23:0, whatever its length. -/
theorem test_route_config_remote :
    (routeFrame (example70 true) 0x1F710000 true 2 zeros State.reset).tq = [0x0071] ∧
    (routeFrame (example70 true) 0x1F710000 true 2 zeros State.reset).cq = [] := by decide
/-- V-R4. -/
theorem test_route_config_data :
    (routeFrame (example70 true) 0x00710300 false 8 letters State.reset).cq = [⟨0x71, 0x03, 0x00, 8, letters⟩] := by
  decide
/-- V-R1, V-R11: device 0. -/
theorem test_route_device0 :
    (routeFrame (example70 true) 0x000000FF true 0 zeros State.reset).tq = [] ∧
    (routeFrame (example70 true) 0x000000FF true 0 zeros State.reset).cq = [] := by decide
set_option maxRecDepth 8000 in
/-- V-R9: a full command queue. -/
theorem test_route_command_drop :
    (routeFrame (example70 true) 0x00050000 false 1 zeros (withCommands 64 State.reset)).cqDropCount = 1 ∧
    (routeFrame (example70 true) 0x00050000 false 1 zeros (withCommands 64 State.reset)).cq.length = 64 := by decide
set_option maxRecDepth 8000 in
/-- V-R10: a full trigger queue does not stop the fall-through. -/
theorem test_route_log_drop :
    (routeFrame (example70 true) 0x00700033 false 0 zeros (withTriggers 128 State.reset)).tqDropCount = 1 ∧
    (routeFrame (example70 true) 0x00700033 false 0 zeros (withTriggers 128 State.reset)).cq.length = 1 := by decide
/-- The coincidence vector: LOG trigger, then CONFIG trigger. -/
theorem test_route_coincide :
    (routeFrame example72 0x00720009 true 0 zeros State.reset).tq = [0x0109, 0x0072] ∧
    (routeFrame example72 0x00720009 true 0 zeros State.reset).cq = [] := by decide
/-- V-R6: the frame's own three bytes reach the scratch buffer. -/
theorem test_route_scratch :
    (routeFrame (example70 true) 0x00050102 false 3 #v[0x11, 0x22, 0x33, 0, 0, 0, 0, 0] State.reset).rxBuf[2] = 0x33 := by
  decide
/-- An RX_FRAME of the transmit client is refused (10_state.md R31). -/
theorem test_rxFrame_refused : (take (.txClient, .rxFrame 0x00050102 false 3 zeros) State.reset).refused = true := by
  decide

/-! ### The sequencer, section 2.3 -/

/-- V-S1. -/
theorem test_sendAccept :
    (take (.txClient, .sendAccept 0x00050000 2 letters) State.reset).seq = .issue ∧
    (take (.txClient, .sendAccept 0x00050000 2 letters) State.reset).txId = 0x00050000 := by decide
/-- V-S2: the stale permit is discarded. -/
theorem test_sendAccept_stale :
    (take (.txClient, .sendAccept 0x00050001 0 zeros) { State.reset with permit := true }).permit = false := by decide
/-- V-S1: the link gets the first `len` bytes. -/
theorem test_sendIssue :
    (take (.sequencer, .sendIssue .ok) { State.reset with seq := .issue, txId := 0x00050000, txData := letters, txLen := 2 }).linkOut
      = [⟨0x00050000, [0x61, 0x62], 2⟩] := by decide
/-- V-S7: both counters wrap. -/
theorem test_sendIssue_wraps :
    (take (.sequencer, .sendIssue .fail) { State.reset with seq := .issue, sendCount := 0xFFFFFFFF, errCount := 0xFFFFFFFF }).sendCount = 0 ∧
    (take (.sequencer, .sendIssue .fail) { State.reset with seq := .issue, sendCount := 0xFFFFFFFF, errCount := 0xFFFFFFFF }).errCount = 0 := by
  decide
/-- V-S1: held without a permit. -/
theorem test_sendFinish_held : (take (.sequencer, .sendFinish) { State.reset with seq := .wait }).reply = .held := by decide
/-- V-S1: the permit is taken and the client's call returns. -/
theorem test_sendFinish :
    (take (.sequencer, .sendFinish) { State.reset with seq := .wait, permit := true }).permit = false ∧
    (take (.sequencer, .sendFinish) { State.reset with seq := .wait, permit := true }).replyTo = .txClient := by decide
/-- V-S6: a released permit stays released. -/
theorem test_txDone_saturates : (take (.linkEnv, .txDone) { State.reset with permit := true }).permit = true := by decide

/-! ### Queues, status and reset, section 2.4 -/

/-- V-Q1. -/
theorem test_pushTrig :
    (take (.cmdClient, .pushTrig 0x0200) State.reset).tq = [0x0200] ∧
    (take (.cmdClient, .pushTrig 0x0200) State.reset).reply = .accepted true := by decide
set_option maxRecDepth 8000 in
/-- V-Q2. -/
theorem test_pushTrig_full :
    (take (.cmdClient, .pushTrig 0x0200) (withTriggers 128 State.reset)).tqDropCount = 1 ∧
    (take (.cmdClient, .pushTrig 0x0200) (withTriggers 128 State.reset)).reply = .accepted false := by decide
/-- V-Q3. -/
theorem test_popTrig_held : (take (.txClient, .popTrig) State.reset).reply = .held := by decide
/-- The example of 43_queues.md R96. -/
theorem test_popTrig :
    (take (.txClient, .popTrig) { State.reset with tq := [0x0071, 0x0133] }).reply = .trigger 0x0071 ∧
    (take (.txClient, .popTrig) { State.reset with tq := [0x0071, 0x0133] }).tq = [0x0133] := by decide
/-- V-Q5. -/
theorem test_popCmd :
    (take (.cmdClient, .popCmd) { State.reset with cq := [someCommand] }).reply = .command someCommand := by decide
/-- V-Q6. -/
theorem test_status :
    (take (.txClient, .status) State.reset).reply = .status ⟨0, 0, 0, 0, 0, 0, .idle⟩ := by decide
/-- 30_encoding.md R60. -/
theorem test_seqCode : [SeqState.idle, .issue, .wait].map seqCode = [0, 1, 2] := by decide
/-- 70_reset_and_hazards.md R114; the mark stays (10_state.md R25). -/
theorem test_reset :
    (take (.platform, .reset) { withTriggers 3 State.reset with seq := .wait, refused := true }).tq = [] ∧
    (take (.platform, .reset) { withTriggers 3 State.reset with seq := .wait, refused := true }).refused = true := by
  decide

/-! ### Steps -/

/-- P1 step 3's word placed as the next transaction. -/
theorem test_step_placed :
    step (State.reset.withFetchWord 128 0x00001716151413121110000500000087) =
      .next { State.reset with seq := .issue, txId := 0x00050000, txLen := 8, issuer := .txClient, replyTo := .txClient
                               txData := #v[0x10, 0x11, 0x12, 0x13, 0x14, 0x15, 0x16, 0x17], reply := .done } := rfl
/-- A pop of an empty queue waits (V-Q3). -/
theorem test_step_waits :
    step (presenting .txClient 0xB) =
      .next { State.reset with waiting := [⟨.txClient, 0xB⟩], issuer := .txClient, replyTo := .txClient, reply := .held } := rfl
/-- V-S9: a refused word sets the mark and nothing else of the block. -/
theorem test_step_refused :
    step (presenting .txClient 0x00000005_00010097) =
      .next { State.reset with refused := true, issuer := .txClient, replyTo := .txClient, reply := .refused } := rfl

/-- Inside its request the transmit client is blocked: a POP_TRIG of a nonempty queue waits (41_tx_sequencer.md R74). -/
theorem test_step_blocked :
    step { presenting .txClient 0xB with seq := .wait, tq := [0x0071] } =
      .next { State.reset with seq := .wait, tq := [0x0071], waiting := [⟨.txClient, 0xB⟩], issuer := .txClient
                               replyTo := .txClient, reply := .held } := rfl
/-- V-S9, "any" state: inside its request too, an illegal word is refused. -/
theorem test_step_blocked_refused :
    step { presenting .txClient 0x00000005_00010097 with seq := .wait } =
      .next { State.reset with seq := .wait, refused := true, issuer := .txClient, replyTo := .txClient
                               reply := .refused } := rfl
/-- No codec operation holds (40_codec.md R73): the transmit client's DECODE inside its request. -/
theorem test_step_codec_in_wait :
    step { presenting .txClient 0x0000000000000000_00001F1234560002 with seq := .wait } =
      .next { State.reset with seq := .wait, issuer := .txClient, replyTo := .txClient
                               reply := .address ⟨0x12, 0x34, 0x56⟩ } := rfl
/-- STATUS is no codec operation: it waits (41_tx_sequencer.md R74, log 13). -/
theorem test_take_status_blocked : (take (.txClient, .status) { State.reset with seq := .wait }).reply = .held := by decide
/-- The sequencer's STATUS in WAIT without a permit (log 24). -/
theorem test_take_sequencer_status :
    (take (.sequencer, .status) { State.reset with seq := .wait }).reply = .status ⟨0, 0, 0, 0, 0, 0, .wait⟩ := by decide
/-- The command client's STATUS is not blocked by it. -/
theorem test_take_status_in_wait :
    (take (.cmdClient, .status) { State.reset with seq := .wait }).reply = .status ⟨0, 0, 0, 0, 0, 0, .wait⟩ := by decide

/-! ### Witnesses: for each statement with hypotheses, operands and a state that meet them all -/

theorem witness_DecodeUndoesEncode :
    exec (.encode 1 2 3) State.reset = .next { State.reset with reply := .identifier 0x00010203 } := rfl

theorem witness_EncodeUndoesDecodeOnCanonicalIds :
    (0x00FFFFFF#29).extractLsb' 24 5 = 0 ∧ (0x01000000#29).extractLsb' 24 5 ≠ 0 ∧
    unpackAddress 0x00FFFFFF#29 = ⟨0xFF, 0xFF, 0xFF⟩ := by decide

theorem witness_SendAcceptLatchesTheRequest :
    (issuedBy .txClient).issuer = .txClient ∧ (8 : Len).val = (8#4).toNat ∧ (issuedBy .txClient).seq = .idle := by decide

theorem witness_SendAcceptHoldsUnlessIdle :
    (issuedBy .txClient).issuer = .txClient ∧ (8#4).toNat ≤ 8 ∧ { issuedBy .txClient with seq := .wait }.seq ≠ .idle := by
  decide

theorem witness_SendIssueHandsTheFrameAndCounts :
    { issuedBy .sequencer with seq := .issue }.issuer = .sequencer ∧
    { issuedBy .sequencer with seq := .issue }.seq = .issue := by decide

theorem witness_SendIssueHoldsUnlessIssue :
    (issuedBy .sequencer).issuer = .sequencer ∧ (issuedBy .sequencer).seq ≠ .issue := by decide

theorem witness_SendFinishTakesThePermit :
    { issuedBy .sequencer with seq := .wait, permit := true }.issuer = .sequencer ∧
    { issuedBy .sequencer with seq := .wait, permit := true }.seq = .wait ∧
    { issuedBy .sequencer with seq := .wait, permit := true }.permit = true := by decide

/-- One state for each way to hold: outside WAIT with a permit, in WAIT without one. -/
theorem witness_SendFinishHoldsWithoutPermit :
    ({ issuedBy .sequencer with permit := true }.issuer = .sequencer ∧
      { issuedBy .sequencer with permit := true }.seq ≠ .wait) ∧
    ({ issuedBy .sequencer with seq := .wait }.issuer = .sequencer ∧
      { issuedBy .sequencer with seq := .wait }.permit = false) := by decide

theorem witness_TxDoneReleasesThePermit : (issuedBy .linkEnv).issuer = .linkEnv := rfl

theorem witness_WholeRequestEndsInIdle : (0 : Len).val = (0#4).toNat ∧ State.reset.seq = .idle := by decide

theorem witness_StrayCompletionEndsTheRequestEarly : { State.reset with seq := .issue }.seq = .issue := rfl

/-- A failed start that no completion follows. -/
theorem witness_NoCompletionNoFinish :
    { State.reset with seq := .issue }.seq ≠ .idle ∧ { State.reset with seq := .issue }.permit = false ∧
    NoReset [(.sequencer, .sendIssue .fail), (.sequencer, .sendFinish)] ∧
    NoCompletion [(.sequencer, .sendIssue .fail), (.sequencer, .sendFinish)] := by
  unfold NoReset NoCompletion
  decide

/-- A request with its completion, and then the next request accepted: the run of the first clause. -/
def twoRequests : List Turn :=
  [(.txClient, .sendAccept 0x00050000 0 zeros), (.sequencer, .sendIssue .ok), (.linkEnv, .txDone),
   (.sequencer, .sendFinish), (.txClient, .sendAccept 0x00050001 0 zeros)]

theorem witness_TransmissionIsSerialized_issue :
    State.reset.seq = .idle ∧ NoReset twoRequests ∧ WellBehavedLink twoRequests State.reset LinkTally.zero ∧
    (runTurns twoRequests State.reset).seq = .issue := by
  refine ⟨rfl, ?_, ⟨by decide, by decide, by decide, by decide, by decide, trivial⟩, rfl⟩
  unfold NoReset
  decide

/-- The run of the second clause: in WAIT, the completion has come. -/
theorem witness_TransmissionIsSerialized_wait :
    NoReset (twoRequests.take 3) ∧ WellBehavedLink (twoRequests.take 3) State.reset LinkTally.zero ∧
    (runTurns (twoRequests.take 3) State.reset).seq = .wait ∧
    (runTurns (twoRequests.take 3) State.reset).permit = true := by
  refine ⟨?_, ⟨by decide, by decide, by decide, trivial⟩, rfl, rfl⟩
  unfold NoReset
  decide

/-- From a reset with a stale permit, a run that leaves IDLE. -/
theorem witness_StalePermitIsUnobservable :
    State.reset.seq = .idle ∧ (runTurns (twoRequests.take 1) State.reset).seq ≠ .idle := by decide

theorem witness_FramesReachTheLinkInRequestOrder :
    State.reset.seq = .idle ∧ NoReset twoRequests ∧ (acceptedFrames twoRequests State.reset).length = 2 := by
  unfold NoReset
  decide

theorem witness_SendAndErrorCountersCountIssues :
    NoReset twoRequests ∧ (tallyRun twoRequests State.reset LinkTally.zero).handed = 1 := by
  unfold NoReset
  decide

theorem witness_RouterQueuesWhatTheBranchesOffer : (8 : Len).val = (8#4).toNat := by decide

theorem witness_RxFrameRoutesTheFrame :
    (issuedBy .linkEnv).issuer = .linkEnv ∧ (8 : Len).val = (8#4).toNat := by decide

set_option maxRecDepth 8000 in
/-- One trigger short of full; the parameters for each value of the fall-through. -/
theorem witness_LogFramePushesItsEventCode :
    idDevice 0x00700033 = (example70 true).logId ∧ idDevice 0x00700033 = (example70 false).logId ∧
    (withTriggers 127 State.reset).tq.length < 128 ∧ (withTriggers 127 State.reset).cq.length < 64 ∧
    (example70 false).logFallthrough = false ∧ (example70 true).logFallthrough = true ∧ (example70 true).logId ≠ 0 ∧
    ¬((example70 true).configId = (example70 true).logId ∧ true = true) := by decide

set_option maxRecDepth 8000 in
theorem witness_ConfigRemoteReadPushesTheConfigTrigger :
    idDevice 0x00710000 = (example70 true).configId ∧ (example70 true).configId ≠ (example70 true).logId ∧
    (withTriggers 127 State.reset).tq.length < 128 ∧ (withCommands 63 State.reset).cq.length < 64 ∧
    (example70 true).configId ≠ 0 := by decide

set_option maxRecDepth 8000 in
theorem witness_CommandFrameQueuesOneRecord :
    reachesCommand (example70 true) 0x00050102 false ∧ reachesCommand (example70 true) 0x00700033 false ∧
    (withCommands 63 State.reset).cq.length < 64 := by decide

theorem witness_DeviceZeroPushesNothing :
    idDevice 0x000000FF = 0 ∧ (example70 true).logId ≠ 0 ∧ ¬((example70 true).configId = 0 ∧ true = true) := by decide

set_option maxRecDepth 8000 in
/-- One state for each of the three clauses. -/
theorem witness_FullQueuesDropAndCount :
    (idDevice 0x00700033 = (example70 true).logId ∧ (withTriggers 128 State.reset).tq.length = 128 ∧
      ¬(idDevice 0x00700033 = (example70 true).configId ∧ false = true) ∧ idDevice 0x00700033 ≠ 0) ∧
    (idDevice 0x00710000 = (example70 true).configId ∧ idDevice 0x00710000 ≠ (example70 true).logId) ∧
    (reachesCommand (example70 true) 0x00700033 false ∧ (withCommands 64 State.reset).cq.length = 64) := by decide

theorem witness_RequestFlagSteersOnlyConfig : idDevice 0x00050000 ≠ (example70 true).configId := by decide

set_option maxRecDepth 8000 in
/-- One set of parameters for each of the four cases; two places short of a full trigger queue. -/
theorem witness_CoincidingParametersFollowBranchOrder :
    (withTriggers 126 State.reset).tq.length + 1 < 128 ∧ (withCommands 63 State.reset).cq.length < 64 ∧
    (example72.logId = example72.configId ∧ idDevice 0x00720009 = example72.logId) ∧
    ((⟨0, 0x71, true⟩ : Config.Params).logId = 0 ∧ idDevice 0x00000044 = 0) ∧
    ((⟨0x70, 0, true⟩ : Config.Params).configId = 0 ∧ (⟨0x70, 0, true⟩ : Config.Params).logId ≠ 0) := by decide

theorem witness_TriggerWordsReadBack : 3 ≤ (0x03#8).toNat := by decide

set_option maxRecDepth 8000 in
theorem witness_PushTrigAppendsWithRoom :
    (withTriggers 127 (issuedBy .cmdClient)).issuer = .cmdClient ∧
    (withTriggers 127 (issuedBy .cmdClient)).tq.length < 128 := by decide

set_option maxRecDepth 8000 in
theorem witness_PushTrigDropsWhenFull :
    (withTriggers 128 (issuedBy .cmdClient)).issuer = .cmdClient ∧
    128 ≤ (withTriggers 128 (issuedBy .cmdClient)).tq.length := by decide

theorem witness_PopsTakeTheOldestItemOrHold_take :
    ((withTriggers 1 (issuedBy .txClient)).issuer = .txClient ∧ (withTriggers 1 (issuedBy .txClient)).tq = 0x0055 :: []) ∧
    ((withCommands 1 (issuedBy .cmdClient)).issuer = .cmdClient ∧
      (withCommands 1 (issuedBy .cmdClient)).cq = someCommand :: []) := by decide

theorem witness_PopsTakeTheOldestItemOrHold_hold :
    ((issuedBy .txClient).issuer = .txClient ∧ (issuedBy .txClient).tq = []) ∧
    ((issuedBy .cmdClient).issuer = .cmdClient ∧ (issuedBy .cmdClient).cq = []) := by decide

theorem witness_TriggerQueueIsFifo :
    NoReset [(.cmdClient, .pushTrig 0x0200), (.txClient, .popTrig)] ∧
    poppedTriggers [(.cmdClient, .pushTrig 0x0200), (.txClient, .popTrig)] State.reset = [0x0200] := by
  unfold NoReset
  decide

set_option maxRecDepth 8000 in
theorem witness_CommandQueueIsFifo :
    NoReset [(.cmdClient, .popCmd)] ∧ poppedCommands [(.cmdClient, .popCmd)] (withCommands 64 State.reset) = [someCommand] := by
  unfold NoReset
  decide

theorem witness_ResetRestartsTheBlock : (issuedBy .platform).issuer = .platform := rfl

theorem witness_EncodingPlacesEveryField : (Instr.rxFrame 0x1FFFFFFF true 8 letters).wellFormed = true := by decide

theorem witness_DecodeOfEncodeIsTheTransaction : (Instr.sendAccept 0x1FFFFFFF 8 letters).wellFormed = true := by decide

theorem witness_EncodeOfDecodeIsTheWord : decode 0x108 = .ok (.sendIssue .fail) := by decide

/-- One state for each clause. -/
theorem witness_IssuerDecidesRefusal :
    (issuedBy .cmdClient).issuer ∉ allowed (.sendAccept 0 0 zeros) ∧
    (issuedBy .txClient).issuer ∈ allowed (.sendAccept 0 8 zeros) ∧ (Instr.sendAccept 0 8 zeros).wellFormed = true := by
  decide

theorem witness_LengthAboveEightIsRefused : (Instr.rxFrame 0 false 9 zeros).wellFormed = false := by decide

theorem witness_RefusedWordOnlySetsTheMark :
    (presenting .txClient 0xE).schedule = .txClient :: [] ∧
    ((presenting .txClient 0xE).begin .txClient []).takeRequest .txClient =
      some (⟨.txClient, 0xE⟩, { State.reset with issuer := .txClient, replyTo := .txClient }) ∧
    decode 0xE = .error (.reservedOp 0xE) := ⟨rfl, rfl, rfl⟩

/-- A step that refuses and one that takes a RESET with the mark set. -/
theorem witness_RefusalMarkIsSetAndNeverCleared :
    (step (presenting .txClient 0xE) = .next { State.reset with refused := true, issuer := .txClient, replyTo := .txClient, reply := .refused }) ∧
    step { presenting .platform 0xF with refused := true } =
      .next ({ State.reset with refused := true }.resetBlock.answer .done) := ⟨rfl, rfl⟩

theorem witness_OnlyTheTabledWritersWrite :
    exec .txDone (issuedBy .linkEnv) = .next { issuedBy .linkEnv with permit := true, reply := .done } := rfl

theorem witness_StepRunsTheDecodedTransaction :
    (presenting .linkEnv 0x6).schedule = .linkEnv :: [] ∧
    ((presenting .linkEnv 0x6).begin .linkEnv []).takeRequest .linkEnv =
      some (⟨.linkEnv, 0x6⟩, { State.reset with issuer := .linkEnv, replyTo := .linkEnv }) ∧
    decode 0x6 = .ok .txDone := ⟨rfl, rfl, rfl⟩

/-- The second clause: the transmit client inside its request. -/
theorem witness_StepRunsTheDecodedTransaction_blocked :
    { presenting .txClient 0xD with seq := .wait }.schedule = .txClient :: [] ∧
    ({ presenting .txClient 0xD with seq := .wait }.begin .txClient []).takeRequest .txClient =
      some (⟨.txClient, 0xD⟩, { State.reset with seq := .wait, issuer := .txClient, replyTo := .txClient }) ∧
    decode 0xD = .ok .status ∧ { presenting .txClient 0xD with seq := .wait }.seq ≠ .idle ∧ isCodec .status = false :=
  ⟨rfl, rfl, rfl, by decide, rfl⟩

theorem witness_PlacedWordIsTheNextTransaction : decode 0x6 = .ok .txDone := rfl

/-- The second clause: a word placed for the transmit client, in WAIT. -/
theorem witness_PlacedWordIsTheNextTransaction_blocked :
    decode 0xB = .ok .popTrig ∧ issuerFor 0xB = .txClient ∧ { State.reset with seq := .wait }.seq ≠ .idle := by decide

theorem witness_HeldTransactionWaitsAndIsRetried :
    OneWaitEach (presenting .txClient 0xB) ∧ (presenting .txClient 0xB).schedule = .txClient :: [] ∧
    ((presenting .txClient 0xB).begin .txClient []).takeRequest .txClient =
      some (⟨.txClient, 0xB⟩, { State.reset with issuer := .txClient, replyTo := .txClient }) ∧
    decode 0xB = .ok .popTrig ∧
    issue .popTrig { State.reset with issuer := .txClient, replyTo := .txClient } =
      .next { State.reset with issuer := .txClient, replyTo := .txClient, reply := .held } := by
  refine ⟨?_, rfl, rfl, rfl, rfl⟩
  unfold OneWaitEach
  decide

set_option maxRecDepth 8000 in
theorem witness_EveryStepKeepsTheInvariant :
    Invariant (withTriggers 128 State.reset) ∧ step (withTriggers 128 State.reset) = .next (withTriggers 128 State.reset) := by
  refine ⟨?_, rfl⟩
  unfold Invariant QueuesBounded OneWaitEach
  decide

/-- The transmit client waits in a pop of the empty trigger queue, and it is its turn. -/
theorem witness_QuiescentClientsStayAtRest :
    Invariant { State.reset with schedule := [.txClient], waiting := [⟨.txClient, 0xB⟩] } ∧
    Quiescent { State.reset with schedule := [.txClient], waiting := [⟨.txClient, 0xB⟩] } := by
  unfold Invariant QueuesBounded OneWaitEach Quiescent
  decide

/-- The transmit client presents a STATUS inside its request. -/
theorem witness_TransmitClientHoldsInsideItsRequest :
    OneWaitEach { presenting .txClient 0xD with seq := .wait } ∧ { presenting .txClient 0xD with seq := .wait }.seq ≠ .idle ∧
    { presenting .txClient 0xD with seq := .wait }.schedule = .txClient :: [] ∧
    ({ presenting .txClient 0xD with seq := .wait }.begin .txClient []).takeRequest .txClient =
      some (⟨.txClient, 0xD⟩, { State.reset with seq := .wait, issuer := .txClient, replyTo := .txClient }) ∧
    decode 0xD = .ok .status ∧ .txClient ∈ allowed .status ∧ isCodec .status = false ∧ isCodec (.decode 0) = true := by
  refine ⟨?_, by decide, rfl, rfl, rfl, by decide, rfl, rfl⟩
  unfold OneWaitEach
  decide

theorem witness_FailedStartHangsTheTransmitPath :
    { State.reset with seq := .issue }.seq = .issue ∧ { State.reset with seq := .issue }.permit = false ∧
    NoReset [(.txClient, .popTrig), (.sequencer, .sendFinish)] ∧
    NoCompletion [(.txClient, .popTrig), (.sequencer, .sendFinish)] ∧
    .txClient ∈ allowed .popTrig ∧ Instr.popTrig.wellFormed = true ∧ isCodec .popTrig = false := by
  unfold NoReset NoCompletion
  decide

end Sys2Proof.Tests
end

/-! PROOFS of the statements about the scope of a step (00_scope.md R4, R10, R11): the step as it takes a transaction off
its agent's list, and what a transaction that holds leaves behind. -/

namespace Sys2Proof.Machine

open Sys2Proof.Safety

/-! ### Taking a transaction off its list -/

/-- Taking a transaction off a list moves that list alone. -/
theorem takeRequest_frame {a : Agent} {s t : State} {r : Request} (h : s.takeRequest a = some (r, t)) :
    t.issuer = s.issuer ∧ blockOf t = blockOf s ∧ t.linkOut = s.linkOut := by
  obtain ⟨-, ⟨-, rfl⟩ | ⟨-, -, rfl⟩⟩ := takeRequest_cases h
  · exact ⟨rfl, rfl, rfl⟩
  · exact ⟨rfl, rfl, rfl⟩

/-! ### The step through `perform`, `issue` and `exec` -/

theorem step_eq_perform {s t : State} {a : Agent} {rest : List Agent} {r : Request} (hs : s.schedule = a :: rest)
    (hq : (s.begin a rest).takeRequest a = some (r, t)) : step s = perform r t := by
  simp [step, hs, hq]

theorem perform_of_issue {r : Request} {i : Instr} {s t : State} (hd : decode r.word = .ok i)
    (hi : issue i s = .next t) : perform r s = .next (t.settle r) := by
  simp [perform, hd, hi]

theorem issue_of_exec {i : Instr} {s t : State} (h : exec i s = .next t) : issue i s = .next (s.heldBack i t) := by
  simp [issue, h]

theorem settle_of_ne_held {s : State} (h : s.reply ≠ .held) (r : Request) : s.settle r = s := by
  rcases settle_cases r s with ⟨hh, -⟩ | ⟨-, e⟩
  · exact absurd hh h
  · exact e

theorem settle_hold (s : State) (r : Request) :
    s.hold.settle r = { s with reply := .held, waiting := s.waiting ++ [r] } := rfl

/-! ### A transaction that holds -/

/-- A transaction answers `held` only by holding. -/
theorem moves_eq_hold {i : Instr} {s t : State} (hm : Moves i s t) (hr : t.reply = .held) : t = s.hold := by
  cases hm with
  | held => rfl
  | _ => cases hr

theorem issue_eq_hold {i : Instr} {s t : State} (h : issue i s = .next t) (hr : t.reply = .held) : t = s.hold := by
  obtain ⟨u, hu, hc⟩ := issue_cases i s
  rw [h] at hu
  cases hu
  cases hc with
  | blocked => rfl
  | moves _ _ hm => exact moves_eq_hold hm hr

/-! ### What an agent that waits presents next -/

/-- Of requests of pairwise different agents, taking off that of `a` leaves none of `a`. -/
theorem find?_eraseP_agent {l : List Request} (h : (l.map Request.agent).Nodup) (a : Agent) :
    (l.eraseP (fun r => r.agent = a)).find? (fun r => r.agent = a) = none := by
  induction l with
  | nil => rfl
  | cons x xs ih =>
    obtain ⟨hx, hxs⟩ := List.nodup_cons.1 h
    by_cases ha : x.agent = a
    · have hne : ∀ y ∈ xs, y.agent ≠ a := fun y hy e => hx (List.mem_map.2 ⟨y, hy, e.trans ha.symm⟩)
      simpa [ha] using hne
    · simpa [ha] using ih hxs

/-- An agent whose transaction was just taken waits in no other. -/
theorem takeRequest_leaves_none {a : Agent} {s t : State} {r : Request} (hw : OneWaitEach s)
    (h : s.takeRequest a = some (r, t)) : t.waiting.find? (fun r => r.agent = a) = none := by
  obtain ⟨-, ⟨-, rfl⟩ | ⟨hn, -, rfl⟩⟩ := takeRequest_cases h
  · exact find?_eraseP_agent hw a
  · exact hn

/-- An agent that waits in one transaction presents it, whatever stands in its inbox (log 1). -/
theorem takeRequest_of_waits {s : State} {r : Request} {ws : List Request} (hs : s.waiting = ws ++ [r])
    (hn : ws.find? (fun x => x.agent = r.agent) = none) : ∃ t, s.takeRequest r.agent = some (r, t) := by
  have hf : s.waiting.find? (fun x => x.agent = r.agent) = some r := by
    simp [hs, hn]
  exact ⟨_, by rw [State.takeRequest, hf]⟩

/-- A transaction that holds after it was taken leaves the block as it was, waits, and is what its agent presents next. -/
theorem hold_settle_retries {s t : State} {a : Agent} {rest : List Agent} {r : Request} (hw : OneWaitEach s)
    (hq : (s.begin a rest).takeRequest a = some (r, t)) :
    blockOf (t.hold.settle r) = blockOf s ∧ (t.hold.settle r).linkOut = s.linkOut ∧
      ∀ later : List Agent, ∃ v, ((t.hold.settle r).begin a later).takeRequest a = some (r, v) := by
  obtain ⟨-, hb, hl⟩ := takeRequest_frame hq
  obtain ⟨rfl, -⟩ := takeRequest_cases hq
  have hw' : OneWaitEach (s.begin r.agent rest) := hw
  have hn : t.waiting.find? (fun x => x.agent = r.agent) = none := takeRequest_leaves_none hw' hq
  exact ⟨hb, hl, fun later => takeRequest_of_waits rfl hn⟩

end Sys2Proof.Machine

namespace Sys2Proof.Proofs

open Sys2Proof.Machine Sys2Proof.Safety

/-- Settles O54: `held` is answered by `State.hold` alone, which leaves the block as it was, and the request kept waiting
is then the only one its agent waits in. -/
theorem heldTransactionWaitsAndIsRetried : Obligations.HeldTransactionWaitsAndIsRetried := by
  intro s t u a rest r i hw hs hq hd hi hr
  obtain rfl := issue_eq_hold hi hr
  exact ⟨_, (step_eq_perform hs hq).trans (perform_of_issue hd hi), hold_settle_retries hw hq⟩

/-- Settles O51: outside the transmit client's request, and for the codec, `issue` is `exec`; inside the request
`State.heldBack` lets only a refusal through. -/
theorem stepRunsTheDecodedTransaction : Obligations.StepRunsTheDecodedTransaction := by
  intro s t a rest r i hs hq hd
  obtain ⟨hia : t.issuer = a, hb, -⟩ := takeRequest_frame hq
  obtain ⟨hra, -⟩ := takeRequest_cases hq
  have hseq : t.seq = s.seq := congrArg Block.seq hb
  have hstep : ∀ {u : State}, issue i t = .next u → step s = .next (u.settle r) :=
    fun hu => (step_eq_perform hs hq).trans (perform_of_issue hd hu)
  obtain ⟨u, hu, -⟩ := exec_moves i t
  refine ⟨hia, hra, hb, fun hfree => ?_, fun ha hne hc => ⟨u, hu, ?_⟩⟩
  · have hissue : issue i t = exec i t := issue_eq_exec (by rwa [hia, hseq, or_assoc])
    rw [hu]
    exact hstep (hissue.trans hu)
  · rw [hstep (issue_of_exec hu)]
    rcases heldBack_cases i t u with ⟨-, -, hr, e⟩ | ⟨hfree, e⟩
    · rw [e, if_neg hr, settle_hold]
    · have hr : u.reply = .refused := by simpa [hia, ha, hseq, hne, hc] using hfree
      rw [e, if_pos hr, settle_of_ne_held (by simp [hr])]

end Sys2Proof.Proofs

/-! PROOFS of the statements about the state (10_state.md R13, R21, R22, R25, R31, R32): which transactions are refused
and what the refusal mark does, what each transaction may write, the two transmit counters over a run, the state after
reset, and a word placed as the next transaction. -/

namespace Sys2Proof.Machine

open Sys2Proof.Safety

/-! ### Who may issue what, and the refusal mark -/

/-- The list of "any agent" (10_state.md R31, log 14) has every agent. -/
theorem mem_anyAgent (a : Agent) :
    a ∈ [Agent.eventHandler, .sequencer, .txClient, .cmdClient, .linkEnv, .platform] := by
  cases a <;> decide

/-- A transaction is refused and sets the mark, or it comes from an allowed agent and leaves the mark as it was. -/
theorem moves_refused_or_allowed {i : Instr} {s t : State} (hm : Moves i s t) :
    ((s.issuer ∉ allowed i ∨ i.wellFormed = false) ∧ t = s.refuse) ∨
    (s.issuer ∈ allowed i ∧ t.reply ≠ .refused ∧ t.refused = s.refused) := by
  cases hm with
  | refused _ _ hr => exact .inl ⟨hr, rfl⟩
  | held _ _ hi => exact .inr ⟨hi, nofun, rfl⟩
  | encode | decode | filter | evcode | status => exact .inr ⟨mem_anyAgent _, nofun, rfl⟩
  | rxFrame _ _ _ _ _ _ hi => exact .inr ⟨by simp [allowed, hi], nofun, by simp⟩
  | txDone _ hi | sendAccept _ _ _ _ _ hi | sendIssue _ _ hi | sendFinish _ hi | pushTrig _ _ hi | popTrig _ _ _ hi
  | popCmd _ _ _ hi | reset _ hi => exact .inr ⟨by simp [allowed, hi], nofun, rfl⟩

/-- From an agent that is not allowed a transaction can only be refused. -/
theorem exec_eq_refuse {i : Instr} {s : State} (h : s.issuer ∉ allowed i) : exec i s = .next s.refuse := by
  obtain ⟨t, ht, hm⟩ := exec_moves i s
  rcases moves_refused_or_allowed hm with ⟨-, rfl⟩ | ⟨hi, -⟩
  · exact ht
  · exact absurd hi h

/-- From an allowed agent a well-formed transaction is not refused. -/
theorem exec_not_refused {i : Instr} {s : State} (h : s.issuer ∈ allowed i) (hw : i.wellFormed = true) :
    ∃ t, exec i s = .next t ∧ t.reply ≠ .refused ∧ t.refused = s.refused := by
  obtain ⟨t, ht, hm⟩ := exec_moves i s
  rcases moves_refused_or_allowed hm with ⟨hr, -⟩ | ⟨-, hr⟩
  · exact absurd hr (by simp [h, hw])
  · exact ⟨t, ht, hr⟩

/-- What a transition does to the mark: a refusal sets it and anything else leaves it (10_state.md R25). -/
def MarkFollowsRefusal (s t : State) : Prop :=
  (t.reply = .refused ∧ t.refused = true) ∨ (t.reply ≠ .refused ∧ t.refused = s.refused)

theorem issues_markFollowsRefusal {i : Instr} {s t : State} (h : Issues i s t) : MarkFollowsRefusal s t := by
  cases h with
  | blocked => exact .inr ⟨nofun, rfl⟩
  | moves _ _ hm =>
    rcases moves_refused_or_allowed hm with ⟨-, rfl⟩ | ⟨-, hr⟩
    · exact .inl ⟨rfl, rfl⟩
    · exact .inr hr

theorem perform_markFollowsRefusal {r : Request} {s t : State} (h : perform r s = .next t) :
    MarkFollowsRefusal s t := by
  rcases perform_cases r s with ⟨_, -, e⟩ | ⟨_, u, -, hu, e⟩ <;> cases h.symm.trans e
  · exact .inl ⟨rfl, rfl⟩
  · simpa [MarkFollowsRefusal] using issues_markFollowsRefusal hu

theorem step_markFollowsRefusal {s t : State} (h : step s = .next t) : MarkFollowsRefusal s t := by
  rcases step_cases s with ⟨-, e⟩ | ⟨_, _, -, -, e⟩ | ⟨_, _, r, u, -, hq, e⟩
  · cases h.symm.trans e
    exact .inr ⟨nofun, rfl⟩
  · cases h.symm.trans e
    exact .inr ⟨nofun, rfl⟩
  · obtain ⟨-, hb, -⟩ := takeRequest_frame hq
    have hu : u.refused = s.refused := congrArg Block.refused hb
    simpa [MarkFollowsRefusal, hu] using perform_markFollowsRefusal (e.symm.trans h)

/-! ### What a transaction may write -/

theorem onlyChanges_self (i : Instr) (b : Block) : onlyChanges i b b = b := by
  cases i <;> rfl

/-- Every transaction that can be refused may set the mark: the others are open to any agent and have no `len`. -/
theorem onlyChanges_refuse {i : Instr} {s : State} (hr : s.issuer ∉ allowed i ∨ i.wellFormed = false) :
    blockOf s.refuse = onlyChanges i (blockOf s) (blockOf s.refuse) := by
  cases i with
  | encode | decode | filter | evcode | status => exact hr.elim (absurd (mem_anyAgent _)) nofun
  | _ => rfl

theorem moves_onlyChanges {i : Instr} {s t : State} (hm : Moves i s t) :
    blockOf t = onlyChanges i (blockOf s) (blockOf t) := by
  cases hm with
  | refused _ _ hr => exact onlyChanges_refuse hr
  | held => exact (onlyChanges_self i (blockOf s)).symm
  | rxFrame => simp [blockOf, onlyChanges]
  | _ => rfl

end Sys2Proof.Machine

namespace Sys2Proof.Safety

open Sys2Proof.Machine

/-! ### The transmit counters -/

/-- The turn hands the latched frame to the link, which answers `res` (41_tx_sequencer.md R75). -/
def HandsFrame (res : LinkResult) (e : Turn) (s : State) : Prop := e = (.sequencer, .sendIssue res) ∧ s.seq = .issue

theorem take_of_handsFrame {res : LinkResult} {e : Turn} {s : State} (h : HandsFrame res e s) :
    (take e s).sendCount = s.sendCount + 1 ∧ (take e s).errCount = countFail res s.errCount := by
  obtain ⟨rfl, hq⟩ := h
  have hm := take_issues (.sequencer, .sendIssue res) s
  generalize take (.sequencer, .sendIssue res) s = t at hm
  cases hm with
  | blocked hi => cases hi
  | moves _ _ hm =>
    cases hm with
    | refused _ _ hr => exact absurd hr (by simp [allowed, Instr.wellFormed])
    | held _ _ _ hb => exact absurd hq hb
    | sendIssue => exact ⟨rfl, rfl⟩

/-- Only a turn that hands over a frame, or a RESET, writes one of the two counters (10_state.md R21, R22). -/
theorem take_of_not_handsFrame {e : Turn} {s : State} (h : ∀ res, ¬HandsFrame res e s)
    (hr : e ≠ (.platform, .reset)) :
    (take e s).sendCount = s.sendCount ∧ (take e s).errCount = s.errCount := by
  obtain ⟨a, i⟩ := e
  have hm := take_issues (a, i) s
  generalize take (a, i) s = t at hm
  cases hm with
  | blocked => exact ⟨rfl, rfl⟩
  | moves _ _ hm =>
    cases hm with
    | sendIssue res _ hi hq => exact absurd ⟨congrArg (·, _) hi, hq⟩ (h res)
    | reset _ hi => exact absurd (congrArg (·, _) hi) hr
    | rxFrame => simp
    | _ => exact ⟨rfl, rfl⟩

theorem after_of_handsFrame {res : LinkResult} {e : Turn} {s : State} (h : HandsFrame res e s) (k : LinkTally) :
    k.after e s = k.hand res := by
  obtain ⟨rfl, hq⟩ := h
  simp [LinkTally.after, hq]

theorem after_of_not_handsFrame {e : Turn} {s : State} (h : ∀ res, ¬HandsFrame res e s) (k : LinkTally) :
    (k.after e s).handed = k.handed ∧ (k.after e s).failed = k.failed := by
  unfold LinkTally.after
  split
  · rename_i res
    split
    · exact absurd ⟨rfl, ‹_›⟩ (h res)
    · exact ⟨rfl, rfl⟩
    · exact ⟨rfl, rfl⟩
  · exact ⟨rfl, rfl⟩
  · exact ⟨rfl, rfl⟩

theorem add_ofNat_succ (c : Cnt) (n : Nat) : c + BitVec.ofNat 32 n + 1 = c + BitVec.ofNat 32 (n + 1) := by
  rw [BitVec.ofNat_add, BitVec.add_assoc]
  rfl

/-- The counters of `s` are those of `s₀` and the frames tallied since, modulo 2^32 (41_tx_sequencer.md R82). -/
structure CountersTally (s₀ s : State) (k : LinkTally) : Prop where
  send : s.sendCount = s₀.sendCount + BitVec.ofNat 32 k.handed
  err : s.errCount = s₀.errCount + BitVec.ofNat 32 k.failed
  failed_le : k.failed ≤ k.handed

theorem countersTally_zero (s : State) : CountersTally s s .zero where
  send := (BitVec.add_zero _).symm
  err := (BitVec.add_zero _).symm
  failed_le := Nat.le_refl 0

theorem countersTally_take {s₀ s : State} {k : LinkTally} (h : CountersTally s₀ s k) {e : Turn}
    (hr : e ≠ (.platform, .reset)) : CountersTally s₀ (take e s) (k.after e s) := by
  obtain ⟨hsend, herr, hle⟩ := h
  by_cases hh : ∃ res, HandsFrame res e s
  · obtain ⟨res, hh⟩ := hh
    obtain ⟨hs, he⟩ := take_of_handsFrame hh
    rw [hsend, add_ofNat_succ] at hs
    rw [herr] at he
    rw [after_of_handsFrame hh]
    cases res with
    | ok => exact ⟨hs, he, Nat.le_succ_of_le hle⟩
    | fail => exact ⟨hs, he.trans (add_ofNat_succ _ _), Nat.succ_le_succ hle⟩
  · rw [not_exists] at hh
    obtain ⟨hs, he⟩ := take_of_not_handsFrame hh hr
    obtain ⟨hk, hf⟩ := after_of_not_handsFrame hh k
    exact ⟨by rw [hs, hk, hsend], by rw [he, hf, herr], by rwa [hk, hf]⟩

theorem countersTally_runTurns {es : List Turn} (hr : NoReset es) {s₀ s : State} {k : LinkTally}
    (h : CountersTally s₀ s k) : CountersTally s₀ (runTurns es s) (tallyRun es s k) := by
  induction es generalizing s k with
  | nil => exact h
  | cons e es ih =>
    obtain ⟨he, hes⟩ := noReset_cons.1 hr
    exact ih hes (countersTally_take h he)

end Sys2Proof.Safety

namespace Sys2Proof.Machine

open Sys2Proof.Safety

/-! ### A word placed by hand -/

theorem underRow_eq_ok {r : Row} {w : Word} {i j : Instr} (h : underRow r w i = .ok j) : i = j := by
  unfold underRow at h
  split at h <;> cases h
  rfl

theorem underRowLen_eq_ok {r : Row} {w : Word} {i j : Instr} (h : underRowLen r w i = .ok j) :
    i = j ∧ lenInRange (lenField w) = true := by
  unfold underRowLen at h
  split at h
  · split at h <;> cases h
    exact ⟨rfl, ‹_›⟩
  · cases h

/-- A word spells a transaction under its own operation selector, and only a well-formed one (30_encoding.md R61, R62). -/
theorem decode_eq_ok {w : Word} {i : Instr} (h : decode w = .ok i) :
    (opField w).toNat = (opField (rowOf i).pattern).toNat ∧ i.wellFormed = true := by
  unfold decode at h
  split at h
  case h_5 | h_7 =>
    obtain ⟨rfl, hl⟩ := underRowLen_eq_ok h
    exact ⟨‹_›, hl⟩
  case h_15 => cases h
  all_goals
    obtain rfl := underRow_eq_ok h
    exact ⟨‹_›, rfl⟩

/-- A legal word is placed for the agent its row's pattern is placed for. -/
theorem issuerFor_of_decode {w : Word} {i : Instr} (h : decode w = .ok i) :
    issuerFor w = issuerFor (rowOf i).pattern := by
  unfold issuerFor
  rw [(decode_eq_ok h).1]

theorem issuerFor_pattern_mem_allowed (i : Instr) : issuerFor (rowOf i).pattern ∈ allowed i := by
  cases i <;> exact of_decide_eq_true rfl

theorem eq_of_issuerFor_pattern_txClient {i : Instr} (h : issuerFor (rowOf i).pattern = .txClient) :
    i = .popTrig ∨ ∃ id len data, i = .sendAccept id len data := by
  cases i with
  | popTrig => exact .inl rfl
  | sendAccept id len data => exact .inr ⟨id, len, data, rfl⟩
  | _ => cases h

/-- The state in which a placed word is taken: its agent issues, and waits in nothing (log 15). -/
def State.placed (w : Word) (s : State) : State :=
  { s.begin (issuerFor w) s.schedule with waiting := s.waiting.filter (fun r => r.agent ≠ issuerFor w) }

/-- An agent that waits in nothing presents the first request of the inbox, where that is its own (log 3). -/
theorem takeRequest_of_inbox {s : State} {r : Request} {rs : List Request} (hi : s.inbox = r :: rs)
    (hw : s.waiting.find? (fun x => x.agent = r.agent) = none) :
    s.takeRequest r.agent = some (r, { s with inbox := rs }) := by
  simp [State.takeRequest, hw, hi]

/-- The placed word is what its agent presents, and everything else of the inbox stays. -/
theorem takeRequest_placeNext (w : Word) (s : State) :
    ((s.placeNext w).begin (issuerFor w) s.schedule).takeRequest (issuerFor w) =
      some (⟨issuerFor w, w⟩, s.placed w) := by
  have hw : (s.waiting.filter (fun r => r.agent ≠ issuerFor w)).find? (fun r => r.agent = issuerFor w) = none :=
    List.find?_eq_none.2 fun r hr => by simpa using (List.mem_filter.1 hr).2
  exact takeRequest_of_inbox (s := (s.placeNext w).begin (issuerFor w) s.schedule) (r := ⟨issuerFor w, w⟩) rfl hw

theorem tableWord_toNat (w : Word) : tableWord 128 w.toNat = w := by
  rw [tableWord, Nat.mod_eq_of_lt w.isLt, BitVec.ofNat_toNat, BitVec.setWidth_eq]

end Sys2Proof.Machine

namespace Sys2Proof.Proofs

open Sys2Proof.Machine Sys2Proof.Safety

/-- Settles O21: the counters' tie to the tally is kept by every turn but a RESET. -/
theorem sendAndErrorCountersCountIssues : Obligations.SendAndErrorCountersCountIssues := by
  intro s es hr
  obtain ⟨hsend, herr, hle⟩ := countersTally_runTurns hr (countersTally_zero s)
  exact ⟨hsend, herr, hle⟩

/-- Settles O46: `exec` refuses exactly for the issuer or for the length. -/
theorem issuerDecidesRefusal : Obligations.IssuerDecidesRefusal :=
  ⟨fun _ _ h => exec_eq_refuse h, fun _ _ h hw => exec_not_refused h hw⟩

/-- Settles O49: a refusal sets the mark and every other step leaves it. -/
theorem refusalMarkIsSetAndNeverCleared : Obligations.RefusalMarkIsSetAndNeverCleared := by
  intro s t h
  rcases step_markFollowsRefusal h with ⟨-, hm⟩ | ⟨hr, hm⟩
  · exact ⟨fun _ => hm, fun _ => hm⟩
  · exact ⟨fun e => absurd e hr, fun hs => hm.trans hs⟩

/-- Settles O50, by the ways a transaction can move. -/
theorem onlyTheTabledWritersWrite : Obligations.OnlyTheTabledWritersWrite :=
  fun _ _ _ h => moves_onlyChanges (moves_of_exec h)

/-- Settles O40, by the definition of `State.reset`. -/
theorem resetStateHasTheTabledValues : Obligations.ResetStateHasTheTabledValues :=
  ⟨rfl, rfl, rfl, rfl, rfl, rfl, rfl, rfl⟩

/-- Settles O52: the word is what its agent presents, so the step is the one `StepRunsTheDecodedTransaction` describes;
inside the request the transaction is not refused, its issuer being allowed and a legal word well formed. -/
theorem placedWordIsTheNextTransaction : Obligations.PlacedWordIsTheNextTransaction := by
  intro s w i hd
  have hiss : (s.placed w).issuer = issuerFor w := rfl
  have hal : (s.placed w).issuer ∈ allowed i := by
    rw [hiss, issuerFor_of_decode hd]
    exact issuerFor_pattern_mem_allowed i
  have htx : issuerFor w = .txClient → i = .popTrig ∨ ∃ id len data, i = .sendAccept id len data :=
    fun h => eq_of_issuerFor_pattern_txClient ((issuerFor_of_decode hd).symm.trans h)
  obtain ⟨u, hu, hnr, -⟩ := exec_not_refused hal (decode_eq_ok hd).2
  obtain ⟨-, -, -, hfree, hblocked⟩ :=
    stepRunsTheDecodedTransaction (s.placeNext w) _ _ _ _ i rfl (takeRequest_placeNext w s) hd
  rw [State.withFetchWord, tableWord_toNat]
  refine ⟨s.placed w, rfl, hal, htx, fun h => hfree (h.imp_right .inl), fun ha hne => ?_⟩
  have hc : isCodec i = false := by
    obtain rfl | ⟨id, len, data, rfl⟩ := htx ha <;> rfl
  obtain ⟨v, hv, hstep⟩ := hblocked ha hne hc
  cases hu.symm.trans hv
  rw [hstep, if_neg hnr, ← hiss, ha]

/-- Settles O56: the queues and the list of waiting transactions are empty. -/
theorem resetMeetsTheInvariant : Obligations.ResetMeetsTheInvariant :=
  ⟨⟨Nat.zero_le _, Nat.zero_le _⟩, List.nodup_nil⟩

end Sys2Proof.Proofs

/-! PROOFS of the statements about the two queues (20_memory.md R42, 43_queues.md R93 to R97): a ledger of what a queue was
offered, took and gave, kept by each push and pop, then by each turn, then by each run. -/

namespace Sys2Proof.Safety

open Sys2Proof.Machine

/-! ### The ledger of a queue -/

/-- A queue and the count of the items it dropped. -/
structure CountedQueue (α : Type) where
  items : List α
  drops : Cnt

/-- From `q` to `q'` the queue was offered `offered`, took `taken` at its tail and gave `given` from its head, in order,
and counted the rest as dropped, modulo 2^32 (43_queues.md R93 to R95). -/
structure Ledger {α : Type} (offered taken given : List α) (q q' : CountedQueue α) : Prop where
  fifo : q.items ++ taken = given ++ q'.items
  taken_le : taken.length ≤ offered.length
  drops : q'.drops = q.drops + BitVec.ofNat 32 (offered.length - taken.length)

section
variable {α : Type} {depth n : Nat} {offered offered' taken taken' given given' : List α} {q q' q'' : CountedQueue α}

theorem Ledger.refl (q : CountedQueue α) : Ledger [] [] [] q q where
  fifo := List.append_nil _
  taken_le := Nat.le_refl 0
  drops := (BitVec.add_zero _).symm

theorem Ledger.append (h : Ledger offered taken given q q') (h' : Ledger offered' taken' given' q' q'') :
    Ledger (offered ++ offered') (taken ++ taken') (given ++ given') q q'' where
  fifo := by rw [← List.append_assoc, h.fifo, List.append_assoc, h'.fifo, List.append_assoc]
  taken_le := by simpa using Nat.add_le_add h.taken_le h'.taken_le
  drops := by
    have hle := h.taken_le
    have hle' := h'.taken_le
    have hlen : (offered ++ offered').length - (taken ++ taken').length =
        (offered.length - taken.length) + (offered'.length - taken'.length) := by
      simp only [List.length_append]
      omega
    rw [h'.drops, h.drops, hlen, BitVec.ofNat_add, BitVec.add_assoc]

theorem Ledger.pop (v : α) (vs : List α) (c : Cnt) : Ledger [] [] [v] ⟨v :: vs, c⟩ ⟨vs, c⟩ where
  fifo := List.append_nil _
  taken_le := Nat.le_refl 0
  drops := (BitVec.add_zero _).symm

/-! ### Offering items to a queue -/

@[simp] theorem fitting_nil : fitting depth n ([] : List α) = [] := List.take_nil

/-- What fits of two batches is what fits of the first, then of the second behind it. -/
theorem fitting_append (xs ys : List α) :
    fitting depth n (xs ++ ys) = fitting depth n xs ++ fitting depth (n + (fitting depth n xs).length) ys := by
  have hroom : depth - n - xs.length = depth - (n + min (depth - n) xs.length) := by omega
  simp only [fitting, List.take_append, List.length_take, hroom]

/-- The queue was offered these items, took those that fit and gave none (43_queues.md R93). -/
abbrev Offers (depth : Nat) (offered : List α) (q q' : CountedQueue α) : Prop :=
  Ledger offered (fitting depth q.items.length offered) [] q q'

theorem Offers.refl (depth : Nat) (q : CountedQueue α) : Offers depth [] q q := by
  simpa [Offers] using Ledger.refl q

theorem Offers.push (depth : Nat) (vs : List α) (c : Cnt) (v : α) :
    Offers depth [v] ⟨vs, c⟩ ⟨(push depth vs v).1, countDrop (push depth vs v).2 c⟩ := by
  rcases push_cases depth vs v with ⟨hlt, e⟩ | ⟨hle, e⟩
  · have hfit : fitting depth vs.length [v] = [v] := List.take_of_length_le (Nat.sub_pos_of_lt hlt)
    constructor <;> simp [e, hfit]
  · have hfit : fitting depth vs.length [v] = [] := by simp [fitting, Nat.sub_eq_zero_of_le hle]
    constructor <;> simp [e, hfit]

theorem Offers.append (h : Offers depth offered q q') (h' : Offers depth offered' q' q'') :
    Offers depth (offered ++ offered') q q'' := by
  have hlen : q'.items.length = q.items.length + (fitting depth q.items.length offered).length := by
    simpa using (congrArg List.length h.fifo).symm
  rw [Offers, fitting_append, ← hlen]
  exact Ledger.append h h'

end

/-! ### The two queues of the block -/

/-- The trigger queue and its drop counter (10_state.md R16, R23). -/
def trigQueue (s : State) : CountedQueue Trig := ⟨s.tq, s.tqDropCount⟩

/-- The command queue and its drop counter (10_state.md R17, R24). -/
def cmdQueue (s : State) : CountedQueue CmdMsg := ⟨s.cq, s.cqDropCount⟩

@[simp] theorem trigQueue_latchScratch (s : State) (l : Len) (d : Bytes8) :
    trigQueue (s.latchScratch l d) = trigQueue s := rfl

@[simp] theorem cmdQueue_latchScratch (s : State) (l : Len) (d : Bytes8) :
    cmdQueue (s.latchScratch l d) = cmdQueue s := rfl

@[simp] theorem trigQueue_pushCommand (s : State) (m : CmdMsg) : trigQueue (s.pushCommand m) = trigQueue s := rfl
@[simp] theorem cmdQueue_pushTrigger (s : State) (t : Trig) : cmdQueue (s.pushTrigger t) = cmdQueue s := rfl

@[simp] theorem commandFor_pushTrigger (id : Id29) (l : Len) (s : State) (t : Trig) :
    (s.pushTrigger t).commandFor id l = s.commandFor id l := rfl

theorem offers_pushTrigger (s : State) (t : Trig) :
    Offers Config.tqDepth [t] (trigQueue s) (trigQueue (s.pushTrigger t)) :=
  Offers.push Config.tqDepth s.tq s.tqDropCount t

theorem offers_pushCommand (s : State) (m : CmdMsg) :
    Offers Config.cqDepth [m] (cmdQueue s) (cmdQueue (s.pushCommand m)) :=
  Offers.push Config.cqDepth s.cq s.cqDropCount m

section
variable (p : Config.Params) (id : Id29) (rtr : Bool) (len : BitVec 4) (l : Len) (data : Bytes8) (s : State)

theorem offers_routeOther_trigQueue :
    Offers Config.tqDepth (if idDevice id = p.configId ∧ rtr = true then [deviceTrigger p.configId] else [])
      (trigQueue s) (trigQueue (routeOther p id rtr l s)) := by
  rcases routeOther_cases p id rtr l s with ⟨hd, hr, e⟩ | ⟨hn, -, e⟩ | ⟨hn, -, e⟩
  · rw [e, if_pos ⟨hd, hr⟩]
    exact offers_pushTrigger s _
  · rw [e, if_neg hn, trigQueue_pushCommand]
    exact Offers.refl _ _
  · rw [e, if_neg hn]
    exact Offers.refl _ (trigQueue s)

theorem offers_routeOther_cmdQueue :
    Offers Config.cqDepth
      (if idDevice id ≠ 0 ∧ ¬(idDevice id = p.configId ∧ rtr = true) then [s.commandFor id l] else [])
      (cmdQueue s) (cmdQueue (routeOther p id rtr l s)) := by
  rcases routeOther_cases p id rtr l s with ⟨hd, hr, e⟩ | ⟨hn, hne, e⟩ | ⟨-, hz, e⟩
  · rw [e, if_neg fun h => h.2 ⟨hd, hr⟩]
    exact Offers.refl _ (cmdQueue s)
  · rw [e, if_pos ⟨hne, hn⟩]
    exact offers_pushCommand s _
  · rw [e, if_neg fun h => h.1 hz]
    exact Offers.refl _ (cmdQueue s)

/-- The trigger words a legal frame offers, in the router's own terms (42_router.md R86, R87). -/
theorem offeredTriggers_rxFrame (hl : lenInRange len = true) :
    offeredTriggers p (.linkEnv, .rxFrame id rtr len data) =
      (if idDevice id = p.logId then [logTrigger (idEventCode id)] else []) ++
      (if idDevice id = p.configId ∧ rtr = true ∧ (idDevice id = p.logId → p.logFallthrough = true)
        then [deviceTrigger p.configId] else []) :=
  if_pos hl

/-- The router offers the trigger queue what the frame's branches push (42_router.md R84, R92). -/
theorem offers_routeFrame_trigQueue (hl : lenInRange len = true) :
    Offers Config.tqDepth (offeredTriggers p (.linkEnv, .rxFrame id rtr len data))
      (trigQueue s) (trigQueue (routeFrame p id rtr l data s)) := by
  have hlog := offers_pushTrigger (s.latchScratch l data) (logTrigger (idEventCode id))
  rw [offeredTriggers_rxFrame p id rtr len data hl]
  rcases routeFrame_cases p id rtr l data s with ⟨hd, hf, e⟩ | ⟨hd, hf, e⟩ | ⟨hd, e⟩
  · rw [e]
    simpa [hd, hf] using hlog.append (offers_routeOther_trigQueue p id rtr l _)
  · rw [e]
    simpa [hd, hf] using hlog
  · rw [e]
    simpa [hd] using offers_routeOther_trigQueue p id rtr l (s.latchScratch l data)

/-- The router offers the command queue one message exactly when the frame reaches the command branch; its payload is the
scratch buffer after the frame was read (42_router.md R86 to R89). -/
theorem offers_routeFrame_cmdQueue :
    Offers Config.cqDepth (if reachesCommand p id rtr then [(routeFrame p id rtr l data s).commandFor id l] else [])
      (cmdQueue s) (cmdQueue (routeFrame p id rtr l data s)) := by
  have hcmd : (routeFrame p id rtr l data s).commandFor id l = (s.latchScratch l data).commandFor id l := by
    simp [State.commandFor]
  rw [hcmd]
  rcases routeFrame_cases p id rtr l data s with ⟨hd, hf, e⟩ | ⟨hd, hf, e⟩ | ⟨hd, e⟩
  · have hother := offers_routeOther_cmdQueue p id rtr l
      ((s.latchScratch l data).pushTrigger (logTrigger (idEventCode id)))
    rw [e]
    simpa [reachesCommand, hd, hf] using hother
  · rw [e, if_neg fun h => by simp [h.2.2 hd] at hf]
    exact Offers.refl _ (cmdQueue s)
  · rw [e]
    simpa [reachesCommand, hd] using offers_routeOther_cmdQueue p id rtr l (s.latchScratch l data)

end

/-! ### A turn -/

/-- The turns that offer an item to a queue: a push from the command client, and a legal frame from the link. -/
inductive Pushes : Turn → Prop where
  | trigger (t : Trig) : Pushes (.cmdClient, .pushTrig t)
  | frame (id : Id29) (rtr : Bool) (len : BitVec 4) (data : Bytes8) (hl : lenInRange len = true) :
      Pushes (.linkEnv, .rxFrame id rtr len data)

theorem offeredTriggers_of_not_pushes {p : Config.Params} {e : Turn} (h : ¬Pushes e) : offeredTriggers p e = [] := by
  unfold offeredTriggers
  split
  · exact absurd (.trigger _) h
  · exact if_neg fun hl => h (.frame _ _ _ _ hl)
  · rfl

theorem offeredCommands_of_not_pushes {p : Config.Params} {e : Turn} (h : ¬Pushes e) (s : State) :
    offeredCommands p e s = [] := by
  unfold offeredCommands
  split
  · split
    · split
      · exact absurd (.frame _ _ _ _ (lenOfField_isSome_iff.1 ⟨_, ‹_›⟩)) h
      · rfl
    · rfl
  · rfl

/-- A turn that pushes is a legal transaction of an agent 10_state.md R31 allows. -/
theorem not_pushes_of_refused {a : Agent} {i : Instr} (h : a ∉ allowed i ∨ i.wellFormed = false) :
    ¬Pushes (a, i) := by
  intro hp
  cases hp with
  | trigger => simp [allowed, Instr.wellFormed] at h
  | frame _ _ _ _ hl => simp [allowed, Instr.wellFormed, hl] at h

/-- A turn that pushes never holds (43_queues.md R93). -/
theorem not_pushes_of_blocked {a : Agent} {i : Instr} {s : State} (h : Blocked i s) : ¬Pushes (a, i) := by
  intro hp
  cases hp <;> exact h

theorem not_pushes_txClient (i : Instr) : ¬Pushes (.txClient, i) := nofun

/-- What an agent's transaction other than RESET does to the two queues. -/
inductive QueueTurn : Turn → State → State → Prop where
  /-- Nothing is offered, nothing is given, and both queues stay. -/
  | still (e : Turn) (s t : State) (hp : ¬Pushes e) (ht : triggerOf t.reply = []) (hc : commandOf t.reply = [])
      (htq : trigQueue t = trigQueue s) (hcq : cmdQueue t = cmdQueue s) : QueueTurn e s t
  /-- 43_queues.md R95. -/
  | pushTrig (w : Trig) (s : State) :
      QueueTurn (.cmdClient, .pushTrig w) s ((s.pushTrigger w).answer (.accepted s.tqAccepts))
  /-- 42_router.md R84. -/
  | frame (id : Id29) (rtr : Bool) (len : BitVec 4) (l : Len) (data : Bytes8) (s : State)
      (hl : lenOfField len = some l) :
      QueueTurn (.linkEnv, .rxFrame id rtr len data) s ((routeFrame Config.params id rtr l data s).answer .done)
  /-- 43_queues.md R96. -/
  | popTrig (a : Agent) (w : Trig) (ws : List Trig) (s : State) (hq : s.tq = w :: ws) :
      QueueTurn (a, .popTrig) s { s with tq := ws, reply := .trigger w }
  /-- 43_queues.md R97. -/
  | popCmd (a : Agent) (m : CmdMsg) (ms : List CmdMsg) (s : State) (hq : s.cq = m :: ms) :
      QueueTurn (a, .popCmd) s { s with cq := ms, reply := .command m }

theorem queueTurn_of_moves {a : Agent} {i : Instr} {s t : State} (hm : Moves i s t) (ha : s.issuer = a)
    (hr : (a, i) ≠ (.platform, .reset)) : QueueTurn (a, i) s t := by
  cases hm with
  | refused _ _ h => exact .still _ _ _ (not_pushes_of_refused (ha ▸ h)) rfl rfl rfl rfl
  | held _ _ _ hb => exact .still _ _ _ (not_pushes_of_blocked hb) rfl rfl rfl rfl
  | pushTrig w _ hi => exact ha ▸ hi ▸ .pushTrig w s
  | rxFrame id rtr len l data _ hi hl => exact ha ▸ hi ▸ .frame id rtr len l data s hl
  | popTrig w ws _ _ hq => exact .popTrig a w ws s hq
  | popCmd m ms _ _ hq => exact .popCmd a m ms s hq
  | reset _ hi => exact absurd (congrArg (·, _) (ha.symm.trans hi)) hr
  | _ => exact .still _ _ _ nofun rfl rfl rfl rfl

/-- A turn other than RESET moves the queues in one of these ways, in the state in which its agent issues. -/
theorem take_queueTurn {e : Turn} (hr : e ≠ (.platform, .reset)) (s : State) :
    QueueTurn e { s with issuer := e.1, replyTo := e.1, reply := .nothing } (take e s) := by
  obtain ⟨a, i⟩ := e
  have hm := take_issues (a, i) s
  generalize take (a, i) s = t at hm ⊢
  cases hm with
  | blocked hi =>
    obtain rfl : a = .txClient := hi
    exact .still _ _ _ (not_pushes_txClient i) rfl rfl rfl rfl
  | moves _ _ hm => exact queueTurn_of_moves hm rfl hr

/-- The trigger queue's ledger of one turn. -/
theorem QueueTurn.trigLedger {e : Turn} {s t : State} (h : QueueTurn e s t) :
    Ledger (offeredTriggers Config.params e) (fitting Config.tqDepth s.tq.length (offeredTriggers Config.params e))
      (triggerOf t.reply) (trigQueue s) (trigQueue t) := by
  cases h with
  | still _ _ _ hp hg _ htq =>
    rw [offeredTriggers_of_not_pushes hp, hg, htq]
    exact Offers.refl _ (trigQueue s)
  | pushTrig w => exact offers_pushTrigger s w
  | frame id rtr len l data _ hl =>
    exact offers_routeFrame_trigQueue Config.params id rtr len l data s (lenOfField_isSome_iff.1 ⟨l, hl⟩)
  | popTrig a w ws _ hq =>
    rw [offeredTriggers_of_not_pushes (e := (a, .popTrig)) nofun, fitting_nil, trigQueue, hq]
    exact Ledger.pop w ws s.tqDropCount
  | popCmd a =>
    rw [offeredTriggers_of_not_pushes (e := (a, .popCmd)) nofun]
    exact Offers.refl _ (trigQueue s)

theorem offeredCommands_rxFrame {id : Id29} {rtr : Bool} {len : BitVec 4} {l : Len} {data : Bytes8}
    (hl : lenOfField len = some l) (p : Config.Params) (s : State) :
    offeredCommands p (.linkEnv, .rxFrame id rtr len data) s =
      if reachesCommand p id rtr then [(take (.linkEnv, .rxFrame id rtr len data) s).commandFor id l] else [] := by
  rw [offeredCommands, hl]
  rfl

/-- The command queue's ledger of one turn, taken in `s₀`, whose transaction is issued in `s`. -/
theorem QueueTurn.cmdLedger {e : Turn} {s₀ s : State} (h : QueueTurn e s (take e s₀)) :
    Ledger (offeredCommands Config.params e s₀)
      (fitting Config.cqDepth s.cq.length (offeredCommands Config.params e s₀))
      (commandOf (take e s₀).reply) (cmdQueue s) (cmdQueue (take e s₀)) := by
  generalize ht : take e s₀ = t at h ⊢
  cases h with
  | still _ _ _ hp _ hg _ hcq =>
    rw [offeredCommands_of_not_pushes hp, hg, hcq]
    exact Offers.refl _ (cmdQueue s)
  | pushTrig w => exact Offers.refl Config.cqDepth (cmdQueue s)
  | frame id rtr len l data _ hl =>
    rw [offeredCommands_rxFrame hl, ht]
    exact offers_routeFrame_cmdQueue Config.params id rtr l data s
  | popTrig a =>
    rw [offeredCommands_of_not_pushes (e := (a, .popTrig)) nofun]
    exact Offers.refl _ (cmdQueue s)
  | popCmd a m ms _ hq =>
    rw [offeredCommands_of_not_pushes (e := (a, .popCmd)) nofun, fitting_nil, cmdQueue, hq]
    exact Ledger.pop m ms s.cqDropCount

/-! ### A run -/

theorem trigLedger_runTurns {es : List Turn} (hr : NoReset es) (s : State) :
    Ledger (allOfferedTriggers Config.params es) (pushedTriggers Config.params es s) (poppedTriggers es s)
      (trigQueue s) (trigQueue (runTurns es s)) := by
  induction es generalizing s with
  | nil => exact .refl _
  | cons e es ih =>
    obtain ⟨he, hes⟩ := noReset_cons.1 hr
    exact (take_queueTurn he s).trigLedger.append (ih hes (take e s))

theorem cmdLedger_runTurns {es : List Turn} (hr : NoReset es) (s : State) :
    Ledger (allOfferedCommands Config.params es s) (pushedCommands Config.params es s) (poppedCommands es s)
      (cmdQueue s) (cmdQueue (runTurns es s)) := by
  induction es generalizing s with
  | nil => exact .refl _
  | cons e es ih =>
    obtain ⟨he, hes⟩ := noReset_cons.1 hr
    exact (take_queueTurn he s).cmdLedger.append (ih hes (take e s))

end Sys2Proof.Safety

namespace Sys2Proof.Proofs

open Sys2Proof.Machine Sys2Proof.Safety

/-- Settles O37: the trigger queue's ledger is kept by every turn but a RESET, and the ledgers of turns add up. -/
theorem triggerQueueIsFifo : Obligations.TriggerQueueIsFifo := by
  intro s es hr
  obtain ⟨hfifo, hle, hdrops⟩ := trigLedger_runTurns hr s
  exact ⟨hfifo, hle, hdrops⟩

/-- Settles O38: the command queue's ledger, likewise. -/
theorem commandQueueIsFifo : Obligations.CommandQueueIsFifo := by
  intro s es hr
  obtain ⟨hfifo, hle, hdrops⟩ := cmdLedger_runTurns hr s
  exact ⟨hfifo, hle, hdrops⟩

end Sys2Proof.Proofs

/-! PROOFS of the statements about the transaction word (30_encoding.md R57, R61, R62): the decoder's answer said once as
fixed bits and operand fields, the words that spell a transaction, the word as a number, the trigger words, and what a
refused word or length leaves unchanged. -/

namespace Sys2Proof

open Sys2Proof.Machine Sys2Proof.Safety

/-! ### The operand fields a word spells -/

theorem ofBool_flag (b : BitVec 1) : BitVec.ofBool (b == 1#1) = b := by
  revert b; decide

theorem ofBool_beq_one (b : Bool) : (BitVec.ofBool b == 1#1) = b := by cases b <;> rfl

theorem flagOfRes_resOfFlag (b : BitVec 1) : flagOfRes (resOfFlag b) = b := by
  revert b; decide

theorem resOfFlag_flagOfRes (res : LinkResult) : resOfFlag (flagOfRes res) = res := by cases res <;> rfl

/-- The operand fields of `w` hold the operands of `i` (30_encoding.md R61). -/
def ReadsOperands (w : Word) : Instr → Prop
  | .encode d p b => deviceField w = d ∧ parameterField w = p ∧ subpacketField w = b
  | .decode id | .filter id | .evcode id => idField w = id
  | .rxFrame id rtr len data =>
    idField w = id ∧ flagField w = BitVec.ofBool rtr ∧ lenField w = len ∧ dataField w = data
  | .sendAccept id len data => idField w = id ∧ lenField w = len ∧ dataField w = data
  | .sendIssue res => flagField w = flagOfRes res
  | .pushTrig trig => trigField w = trig
  | .txDone | .sendFinish | .popTrig | .popCmd | .status | .reset => True

/-- The encoder puts every operand into its field. -/
theorem readsOperands_encode (i : Instr) : ReadsOperands (encode i) i := by
  cases i with
  | encode d p b =>
    refine ⟨?_, ?_, ?_⟩
    · simp only [encode, deviceField_assemble]
      exact (extractLsb'_append_high _ _ 8 8).trans
        ((extractLsb'_append_high _ _ 0 8).trans (extractLsb'_append_bottom _ _))
    · simp only [encode, parameterField_assemble]
      exact (extractLsb'_append_high _ _ 0 8).trans (extractLsb'_append_bottom _ _)
    · simp only [encode, subpacketField_assemble]
      exact extractLsb'_append_bottom _ _
  | _ => simp [encode, ReadsOperands]

/-! ### What the decoder accepts -/

theorem underRow_eq_ok_iff {r : Row} {w : Word} {i j : Instr} :
    underRow r w i = .ok j ↔ w &&& r.mask = r.pattern ∧ i = j := by
  unfold underRow fixedBitsOk
  split <;> simp_all

theorem underRowLen_eq_ok_iff {r : Row} {w : Word} {i j : Instr} :
    underRowLen r w i = .ok j ↔ w &&& r.mask = r.pattern ∧ lenInRange (lenField w) = true ∧ i = j := by
  unfold underRowLen fixedBitsOk
  split
  · split <;> simp_all
  · simp_all

/-- A field the row's mask keeps whole is the pattern's. -/
theorem extractLsb'_of_fixedBits {r : Row} {w : Word} (h : w &&& r.mask = r.pattern) {k n : Nat}
    (hm : r.mask.extractLsb' k n = BitVec.allOnes n) : w.extractLsb' k n = r.pattern.extractLsb' k n := by
  rw [← h, BitVec.extractLsb'_and, hm, BitVec.and_allOnes]

theorem rowOf_mem_opcodeTable (i : Instr) : rowOf i ∈ opcodeTable := by
  cases i <;> exact of_decide_eq_true rfl

/-- Every row fixes the operation selector. -/
theorem opField_of_fixedBits {r : Row} {w : Word} (hr : r ∈ opcodeTable) (h : w &&& r.mask = r.pattern) :
    opField w = opField r.pattern :=
  have hm : ∀ r ∈ opcodeTable, r.mask.extractLsb' 0 4 = BitVec.allOnes 4 := by decide
  extractLsb'_of_fixedBits h (hm r hr)

/-- The decoder answers `i` exactly for the words with the fixed bits of the row of `i` and its operands in their fields,
`i` being well formed. -/
theorem decode_eq_ok_iff {w : Word} {i : Instr} :
    decode w = .ok i ↔ w &&& (rowOf i).mask = (rowOf i).pattern ∧ ReadsOperands w i ∧ i.wellFormed = true := by
  constructor
  · intro h
    unfold decode at h
    split at h
    case h_5 | h_7 =>
      obtain ⟨hf, hl, rfl⟩ := underRowLen_eq_ok_iff.1 h
      exact ⟨hf, by simp [ReadsOperands, ofBool_flag], hl⟩
    case h_15 => cases h
    all_goals
      obtain ⟨hf, rfl⟩ := underRow_eq_ok_iff.1 h
      exact ⟨hf, by simp [ReadsOperands, flagOfRes_resOfFlag], rfl⟩
  · rintro ⟨hf, ho, hw⟩
    unfold decode
    rw [opField_of_fixedBits (rowOf_mem_opcodeTable i) hf]
    cases i with
    | encode =>
      obtain ⟨rfl, rfl, rfl⟩ := ho
      exact underRow_eq_ok_iff.2 ⟨hf, rfl⟩
    | rxFrame id rtr len data =>
      obtain ⟨rfl, hflag, rfl, rfl⟩ := ho
      exact underRowLen_eq_ok_iff.2 ⟨hf, hw, by rw [hflag, ofBool_beq_one]⟩
    | sendAccept =>
      obtain ⟨rfl, rfl, rfl⟩ := ho
      exact underRowLen_eq_ok_iff.2 ⟨hf, hw, rfl⟩
    | sendIssue res => exact underRow_eq_ok_iff.2 ⟨hf, by rw [show flagField w = _ from ho, resOfFlag_flagOfRes]⟩
    | decode | filter | evcode | pushTrig =>
      obtain rfl := ho
      exact underRow_eq_ok_iff.2 ⟨hf, rfl⟩
    | _ => exact underRow_eq_ok_iff.2 ⟨hf, rfl⟩

/-! ### A word is its fixed bits and its operand fields -/

/-- The eight data bytes as lowest bit and width. -/
def dataFields : List (Nat × Nat) :=
  [(48, 8), (56, 8), (64, 8), (72, 8), (80, 8), (88, 8), (96, 8), (104, 8)]

/-- The operand fields of a transaction as lowest bit and width, the data byte by byte (30_encoding.md R61). -/
def operandFields : Instr → List (Nat × Nat)
  | .encode _ _ _ => [(16, 8), (24, 8), (32, 8)]
  | .decode _ | .filter _ | .evcode _ => [(16, 29)]
  | .rxFrame _ _ _ _ => (4, 4) :: (8, 1) :: (16, 29) :: dataFields
  | .sendAccept _ _ _ => (4, 4) :: (16, 29) :: dataFields
  | .sendIssue _ => [(8, 1)]
  | .pushTrig _ => [(112, 16)]
  | .txDone | .sendFinish | .popTrig | .popCmd | .status | .reset => []

/-- Every bit a row leaves free is of one of its operand fields. -/
theorem mem_operandFields_of_free (i : Instr) :
    ∀ j < 128, (rowOf i).mask.getLsbD j = false → ∃ f ∈ operandFields i, f.1 ≤ j ∧ j < f.1 + f.2 := by
  cases i <;> simp only [rowOf, operandFields, dataFields] <;> decide

/-- Words that hold the same data agree on each data byte. -/
theorem agree_of_dataField_eq {w w' : Word} (h : dataField w = dataField w') :
    ∀ f ∈ dataFields, w.extractLsb' f.1 f.2 = w'.extractLsb' f.1 f.2 := by
  simpa [dataField, dataByteField, dataFields] using h

/-- Words that hold the same operands agree on each operand field. -/
theorem ReadsOperands.agree {w w' : Word} {i : Instr} (h : ReadsOperands w i) (h' : ReadsOperands w' i) :
    ∀ f ∈ operandFields i, w.extractLsb' f.1 f.2 = w'.extractLsb' f.1 f.2 := by
  cases i with
  | encode d p b =>
    obtain ⟨hd, hp, hb⟩ := h
    obtain ⟨rfl, rfl, rfl⟩ := h'
    simp only [operandFields, List.forall_mem_cons]
    exact ⟨hb, hp, hd, nofun⟩
  | rxFrame id rtr len data =>
    obtain ⟨hid, hflag, hlen, hdata⟩ := h
    obtain ⟨rfl, hflag', rfl, rfl⟩ := h'
    simp only [operandFields, List.forall_mem_cons]
    exact ⟨hlen, hflag.trans hflag'.symm, hid, agree_of_dataField_eq hdata⟩
  | sendAccept id len data =>
    obtain ⟨hid, hlen, hdata⟩ := h
    obtain ⟨rfl, rfl, rfl⟩ := h'
    simp only [operandFields, List.forall_mem_cons]
    exact ⟨hlen, hid, agree_of_dataField_eq hdata⟩
  | decode | filter | evcode | sendIssue | pushTrig =>
    simp only [operandFields, List.forall_mem_cons]
    exact ⟨h.trans h'.symm, nofun⟩
  | _ => nofun

/-- Two words of one row that hold the same operands are the same word. -/
theorem eq_of_fixedBits_of_operands {w w' : Word} {i : Instr} (hf : w &&& (rowOf i).mask = (rowOf i).pattern)
    (hf' : w' &&& (rowOf i).mask = (rowOf i).pattern) (h : ReadsOperands w i) (h' : ReadsOperands w' i) : w = w' := by
  refine BitVec.eq_of_getLsbD_eq fun j hj => ?_
  cases hm : (rowOf i).mask.getLsbD j with
  | true => simpa [hm] using congrArg (BitVec.getLsbD · j) (hf.trans hf'.symm)
  | false =>
    obtain ⟨f, hmem, hle, hlt⟩ := mem_operandFields_of_free i j hj hm
    have hk : j - f.1 < f.2 := by omega
    simpa [hk, Nat.add_sub_cancel' hle] using congrArg (BitVec.getLsbD · (j - f.1)) (h.agree h' f hmem)

/-! ### Legal words are the rows' -/

/-- A row whose `len` field has the bound of 30_encoding.md R62. -/
def Row.HasLen (r : Row) : Prop := r.mnemonic = "RX_FRAME" ∨ r.mnemonic = "SEND_ACCEPT"

/-- A transaction is well formed when the `len` field of its word is in range, where its row has that bound. -/
theorem wellFormed_iff_lenField {w : Word} {i : Instr} (ho : ReadsOperands w i) :
    i.wellFormed = true ↔ ((rowOf i).HasLen → (lenField w).toNat ≤ 8) := by
  cases i with
  | rxFrame id rtr len data =>
    obtain ⟨-, -, rfl, -⟩ := ho
    exact lenInRange_iff.trans ⟨fun h _ => h, fun h => h (.inl rfl)⟩
  | sendAccept id len data =>
    obtain ⟨-, rfl, -⟩ := ho
    exact lenInRange_iff.trans ⟨fun h _ => h, fun h => h (.inr rfl)⟩
  | _ =>
    simp only [rowOf, Row.HasLen]
    exact iff_of_true rfl (absurd · (by decide))

/-- Under each row of the table a word holds the operands of some transaction of that row. -/
theorem exists_readsOperands (w : Word) : ∀ r ∈ opcodeTable, ∃ i, rowOf i = r ∧ ReadsOperands w i := by
  simp only [opcodeTable, List.forall_mem_cons]
  exact ⟨⟨.encode (deviceField w) (parameterField w) (subpacketField w), rfl, rfl, rfl, rfl⟩,
    ⟨.decode (idField w), rfl, rfl⟩, ⟨.filter (idField w), rfl, rfl⟩, ⟨.evcode (idField w), rfl, rfl⟩,
    ⟨.rxFrame (idField w) (flagField w == 1#1) (lenField w) (dataField w), rfl, rfl, (ofBool_flag _).symm, rfl, rfl⟩,
    ⟨.txDone, rfl, trivial⟩, ⟨.sendAccept (idField w) (lenField w) (dataField w), rfl, rfl, rfl, rfl⟩,
    ⟨.sendIssue (resOfFlag (flagField w)), rfl, (flagOfRes_resOfFlag _).symm⟩, ⟨.sendFinish, rfl, trivial⟩,
    ⟨.pushTrig (trigField w), rfl, rfl⟩, ⟨.popTrig, rfl, trivial⟩, ⟨.popCmd, rfl, trivial⟩, ⟨.status, rfl, trivial⟩,
    ⟨.reset, rfl, trivial⟩, nofun⟩

/-! ### The word as a number -/

/-- A concatenation as a number: the parts do not overlap, so they add. -/
theorem toNat_append_eq_add {n m : Nat} (x : BitVec n) (y : BitVec m) :
    (x ++ y).toNat = x.toNat * 2 ^ m + y.toNat := by
  rw [BitVec.toNat_append, ← Nat.shiftLeft_add_eq_or_of_lt y.isLt, Nat.shiftLeft_eq]

theorem toNat_assemble (t : Trig) (x : BitVec 64) (id : Id29) (f : BitVec 1) (l o : BitVec 4) :
    (assemble t x id f l o).toNat =
      o.toNat + l.toNat * 2 ^ 4 + f.toNat * 2 ^ 8 + id.toNat * 2 ^ 16 + x.toNat * 2 ^ 48 + t.toNat * 2 ^ 112 := by
  simp only [assemble, toNat_append_eq_add, BitVec.toNat_ofNat]
  omega

/-- The packed data at bit 48 are the data bytes at their places. -/
theorem toNat_packData (d : Bytes8) : (packData d).toNat * 2 ^ 48 = wordValue.dataValue d := by
  simp only [packData, toNat_append_eq_add, wordValue.dataValue]
  omega

/-- The value of a word is the sum the fields' places give. -/
theorem toNat_encode (i : Instr) : (encode i).toNat = wordValue i := by
  cases i with
  | encode d p b =>
    simp only [encode, toNat_assemble, toNat_append_eq_add, wordValue, BitVec.toNat_ofNat]
    omega
  | rxFrame id rtr len data =>
    simp only [encode, toNat_assemble, toNat_packData, wordValue, BitVec.toNat_ofNat, BitVec.toNat_ofBool]
    omega
  | sendAccept id len data =>
    simp only [encode, toNat_assemble, toNat_packData, wordValue, BitVec.toNat_ofNat]
    omega
  | decode | filter | evcode | pushTrig =>
    simp [encode, toNat_assemble, wordValue]
  | sendIssue res => cases res <;> rfl
  | _ => rfl

end Sys2Proof

namespace Sys2Proof.Machine

open Sys2Proof.Safety

/-! ### Refused words and lengths -/

/-- A word refused for its bits leaves the state with the mark set. -/
theorem perform_of_decode_error {r : Request} {e : DecodeError} (h : decode r.word = .error e) (s : State) :
    perform r s = .next s.refuse := by
  simp [perform, h]

theorem blockOf_refuse (s : State) : blockOf s.refuse = { blockOf s with refused := true } := rfl

/-- A meaning that refuses is refused from every issuer. -/
theorem onlyFrom_eq_refuse {a : Agent} {act : State → State} {s : State} (h : act s = s.refuse) :
    onlyFrom a act s = s.refuse := by
  by_cases hi : s.issuer = a
  · rw [onlyFrom_of_eq hi, h]
  · exact onlyFrom_of_ne hi act

theorem lenOfField_of_not_lenInRange {len : BitVec 4} (h : lenInRange len = false) : lenOfField len = none :=
  lenOfField_eq_none.2 (Nat.lt_of_not_le (of_decide_eq_false h))

/-- A transaction whose `len` is out of range is refused, whoever issues it (30_encoding.md R62, third case). -/
theorem exec_of_not_wellFormed {i : Instr} (h : i.wellFormed = false) (s : State) : exec i s = .next s.refuse := by
  cases i with
  | rxFrame id rtr len data =>
    exact congrArg _ (onlyFrom_eq_refuse (by rw [lenOfField_of_not_lenInRange h]))
  | sendAccept id len data =>
    exact congrArg _ (onlyFrom_eq_refuse (by rw [lenOfField_of_not_lenInRange h]))
  | _ => cases h

/-! ### Trigger words -/

theorem trigWord_kind (k a : Byte) : (trigWord k a).extractLsb' 8 8 = k :=
  (extractLsb'_append_high k a 0 8).trans (extractLsb'_whole k)

theorem trigWord_arg (k a : Byte) : (trigWord k a).extractLsb' 0 8 = a := extractLsb'_append_bottom k a

/-- A trigger word reads back by its kind; only `ANSWER_READY` depends on the whole word (30_encoding.md R57). -/
theorem viewTrigger_trigWord (k a : Byte) : viewTrigger (trigWord k a) =
    if k = 0x00 then .device a else if k = 0x01 then .logEvent a
    else if trigWord k a = answerTrigger then .answerReady else .other (trigWord k a) := by
  simp only [viewTrigger, trigWord_kind, trigWord_arg]

theorem viewTrigger_of_kind_ge {k : Byte} (h : 3 ≤ k.toNat) (a : Byte) :
    viewTrigger (trigWord k a) = .other (trigWord k a) := by
  have hne : ∀ c : Byte, c.toNat < 3 → k ≠ c := by
    rintro _ hc rfl
    omega
  have hans : trigWord k a ≠ answerTrigger := fun e =>
    hne 0x02 (by decide) (by rw [← trigWord_kind k a, e, answerTrigger, trigWord_kind])
  rw [viewTrigger_trigWord, if_neg (hne _ (by decide)), if_neg (hne _ (by decide)), if_neg hans]

end Sys2Proof.Machine

namespace Sys2Proof.Proofs

open Sys2Proof.Machine Sys2Proof.Safety

/-- Settles O42: the word has its row's fixed bits and every operand in its field, which is what the decoder reads. -/
theorem decodeOfEncodeIsTheTransaction : Obligations.DecodeOfEncodeIsTheTransaction :=
  fun i hw => decode_eq_ok_iff.2 ⟨Laws.FixedBits.all i, readsOperands_encode i, hw⟩

/-- Settles O43: the word and the encoder's word are of one row and hold the same operands, so they are one word. -/
theorem encodeOfDecodeIsTheWord : Obligations.EncodeOfDecodeIsTheWord := by
  intro w i hd
  obtain ⟨hf, ho, hw⟩ := decode_eq_ok_iff.1 hd
  exact ⟨hw, eq_of_fixedBits_of_operands (Laws.FixedBits.all i) hf (readsOperands_encode i) ho⟩

/-- Settles O41, by the value of an assembled word. -/
theorem encodingPlacesEveryField : Obligations.EncodingPlacesEveryField :=
  fun i _ => toNat_encode i

/-- Settles O44: a legal word has the fixed bits of its transaction's row, and under each row a word holds the operands of
a transaction, well formed exactly when `len` is in range. -/
theorem legalWordsAreTheTablesRows : Obligations.LegalWordsAreTheTablesRows := by
  intro w
  constructor
  · rintro ⟨i, hd⟩
    obtain ⟨hf, ho, hw⟩ := decode_eq_ok_iff.1 hd
    exact ⟨rowOf i, rowOf_mem_opcodeTable i, hf, (wellFormed_iff_lenField ho).1 hw⟩
  · rintro ⟨r, hr, hf, hl⟩
    obtain ⟨i, rfl, ho⟩ := exists_readsOperands w r hr
    exact ⟨i, decode_eq_ok_iff.2 ⟨hf, ho, (wellFormed_iff_lenField ho).2 hl⟩⟩

/-- Settles O48: taking the word off its list moves that list alone, and the refusal sets the mark. -/
theorem refusedWordOnlySetsTheMark : Obligations.RefusedWordOnlySetsTheMark := by
  intro s t a rest r e hs hq hd
  obtain ⟨-, hb, hl⟩ := takeRequest_frame hq
  refine ⟨t.refuse, (step_eq_perform hs hq).trans (perform_of_decode_error hd t), ?_, rfl, hl⟩
  rw [blockOf_refuse, hb]
  rfl

/-- Settles O32, by the kind of each word. -/
theorem triggerWordsReadBack : Obligations.TriggerWordsReadBack :=
  ⟨fun d => viewTrigger_trigWord 0x00 d, fun c => viewTrigger_trigWord 0x01 c, viewTrigger_trigWord 0x02 0x00,
    fun _ a hk => viewTrigger_of_kind_ge hk a⟩

/-- Settles O45, by running the decoder on the five words. -/
theorem writtenOutWordsDecode : Obligations.WrittenOutWordsDecode :=
  ⟨by decide, by decide, by decide, by decide, by decide⟩

/-- Settles O47, for a `len` out of range is refused from the agent that may issue the transaction and from any other. -/
theorem lengthAboveEightIsRefused : Obligations.LengthAboveEightIsRefused :=
  fun _ s hw => exec_of_not_wellFormed hw s

end Sys2Proof.Proofs

/-! PROOFS of the statements about the address codec (40_codec.md R66 to R72): an identifier as the concatenation of its
fields, the codec's functions on a concatenation, and what the four transactions answer. -/

namespace Sys2Proof.Machine

/-! ### An identifier as its fields (30_encoding.md R51) -/

/-- The low byte is one field with two readings (30_encoding.md R54). -/
theorem idSubpacket_eq_idEventCode (id : Id29) : idSubpacket id = idEventCode id := rfl

/-- An identifier is its bits 28:8 and its low byte. -/
theorem id_eq_append_lowByte (id : Id29) : id = id.extractLsb' 8 21 ++ idEventCode id := by
  have h : id.extractLsb' 8 21 ++ idEventCode id = id.extractLsb' 0 29 :=
    BitVec.extractLsb'_append_extractLsb'_eq_extractLsb' rfl
  rw [h, extractLsb'_whole]

/-- An identifier is its bits 28:24 and its three bytes. -/
theorem id_eq_append_fields (id : Id29) :
    id = id.extractLsb' 24 5 ++ idDevice id ++ idParameter id ++ idSubpacket id := by
  have hd : id.extractLsb' 24 5 ++ idDevice id = id.extractLsb' 16 13 :=
    BitVec.extractLsb'_append_extractLsb'_eq_extractLsb' rfl
  have hp : id.extractLsb' 16 13 ++ idParameter id = id.extractLsb' 8 21 :=
    BitVec.extractLsb'_append_extractLsb'_eq_extractLsb' rfl
  rw [hd, hp, idSubpacket_eq_idEventCode, ← id_eq_append_lowByte]

theorem toNat_idDevice (id : Id29) : (idDevice id).toNat = id.toNat / 2 ^ 16 % 2 ^ 8 := by
  rw [idDevice, BitVec.extractLsb'_toNat, Nat.shiftRight_eq_div_pow]

theorem toNat_idParameter (id : Id29) : (idParameter id).toNat = id.toNat / 2 ^ 8 % 2 ^ 8 := by
  rw [idParameter, BitVec.extractLsb'_toNat, Nat.shiftRight_eq_div_pow]

theorem toNat_idEventCode (id : Id29) : (idEventCode id).toNat = id.toNat % 2 ^ 8 := by
  rw [idEventCode, BitVec.extractLsb'_toNat, Nat.shiftRight_zero]

/-! ### Packing and unpacking -/

/-- The fields of R52 do not overlap, so packing is concatenation: each bit is of the one field its place falls in. -/
theorem packAddress_eq_append (a : WireAddress) :
    packAddress a = 0#5 ++ a.device ++ a.parameter ++ a.subpacket := by
  apply BitVec.eq_of_getLsbD_eq
  intro i hi
  simp only [packAddress, BitVec.getLsbD_or, BitVec.getLsbD_shiftLeft, BitVec.getLsbD_setWidth, BitVec.getLsbD_append]
  grind

theorem unpackAddress_append (h : BitVec 5) (d p b : Byte) : unpackAddress (h ++ d ++ p ++ b) = ⟨d, p, b⟩ := by
  have hd : idDevice (h ++ d ++ p ++ b) = d := (extractLsb'_append_high _ b 8 8).trans
    ((extractLsb'_append_high _ p 0 8).trans (extractLsb'_append_bottom h d))
  have hp : idParameter (h ++ d ++ p ++ b) = p :=
    (extractLsb'_append_high _ b 0 8).trans (extractLsb'_append_bottom _ p)
  have hb : idSubpacket (h ++ d ++ p ++ b) = b := extractLsb'_append_bottom _ b
  rw [unpackAddress, hd, hp, hb]

/-- Bits 28:24 of a packed address are zero (30_encoding.md R53). -/
theorem packAddress_canonical (a : WireAddress) : (packAddress a).extractLsb' 24 5 = 0 := by
  rw [packAddress_eq_append]
  exact (extractLsb'_append_high _ _ 16 5).trans ((extractLsb'_append_high _ _ 8 5).trans
    ((extractLsb'_append_high _ _ 0 5).trans (extractLsb'_whole 0#5)))

theorem unpackAddress_packAddress (a : WireAddress) : unpackAddress (packAddress a) = a := by
  rw [packAddress_eq_append, unpackAddress_append]

theorem packAddress_unpackAddress_of_canonical {id : Id29} (h : id.extractLsb' 24 5 = 0) :
    packAddress (unpackAddress id) = id := by
  conv_rhs => rw [id_eq_append_fields id, h]
  exact packAddress_eq_append _

/-- Packing what was unpacked clears bits 28:24. -/
theorem packAddress_unpackAddress (id : Id29) : packAddress (unpackAddress id) = id &&& 0x00FFFFFF#29 := by
  have hmask : 0x00FFFFFF#29 = 0#5 ++ BitVec.allOnes 8 ++ BitVec.allOnes 8 ++ BitVec.allOnes 8 := rfl
  conv_rhs => rw [id_eq_append_fields id, hmask]
  rw [BitVec.and_append, BitVec.and_append, BitVec.and_append, BitVec.and_zero, BitVec.and_allOnes, BitVec.and_allOnes,
    BitVec.and_allOnes]
  exact packAddress_eq_append _

theorem toNat_packAddress (a : WireAddress) :
    (packAddress a).toNat = a.device.toNat * 2 ^ 16 + a.parameter.toNat * 2 ^ 8 + a.subpacket.toNat := by
  simp only [packAddress_eq_append, toNat_append_eq_add, BitVec.toNat_ofNat]
  omega

/-! ### The message identifier -/

/-- Stripping keeps the upper part and zeroes the byte below it. -/
theorem stripLowByte_append (x : BitVec 21) (b : Byte) : stripLowByte (x ++ b) = x ++ 0#8 := by
  have hmask : Config.filterMess = BitVec.allOnes 21 ++ 0#8 := rfl
  rw [stripLowByte, hmask, BitVec.and_append, BitVec.and_allOnes, BitVec.and_zero]

theorem stripLowByte_eq_append (id : Id29) : stripLowByte id = id.extractLsb' 8 21 ++ 0#8 := by
  conv_lhs => rw [id_eq_append_lowByte id]
  exact stripLowByte_append _ _

theorem stripLowByte_lowByte (id : Id29) : (stripLowByte id).extractLsb' 0 8 = 0 := by
  rw [stripLowByte_eq_append]
  exact extractLsb'_append_bottom _ _

theorem stripLowByte_stripLowByte (id : Id29) : stripLowByte (stripLowByte id) = stripLowByte id := by
  rw [stripLowByte_eq_append id, stripLowByte_append]

/-- Stripping a packed address zeroes its subpacket. -/
theorem stripLowByte_packAddress (d p b : Byte) : stripLowByte (packAddress ⟨d, p, b⟩) =
    packAddress ⟨d, p, 0⟩ := by
  rw [packAddress_eq_append, packAddress_eq_append]
  exact stripLowByte_append _ _

theorem stripLowByte_or_idEventCode (id : Id29) : stripLowByte id ||| (idEventCode id).setWidth 29 = id := by
  have hlow : (idEventCode id).setWidth 29 = 0#21 ++ idEventCode id :=
    BitVec.setWidth_eq_append (by decide)
  conv_rhs => rw [id_eq_append_lowByte id]
  rw [stripLowByte_eq_append, hlow, BitVec.or_append, BitVec.or_zero, BitVec.zero_or]

theorem toNat_stripLowByte (id : Id29) : (stripLowByte id).toNat = id.toNat / 2 ^ 8 * 2 ^ 8 := by
  rw [stripLowByte_eq_append, toNat_append_eq_add, BitVec.extractLsb'_toNat, Nat.shiftRight_eq_div_pow]
  have := id.isLt
  simp only [BitVec.toNat_ofNat]
  omega

/-! ### What the four transactions answer -/

theorem exec_encode (d p b : Byte) (s : State) :
    exec (.encode d p b) s = .next (s.answer (.identifier (packAddress ⟨d, p, b⟩))) := rfl

theorem exec_decode (id : Id29) (s : State) :
    exec (.decode id) s = .next (s.answer (.address (unpackAddress id))) := rfl

theorem exec_filter (id : Id29) (s : State) :
    exec (.filter id) s = .next (s.answer (.identifier (stripLowByte id))) := rfl

theorem exec_evcode (id : Id29) (s : State) :
    exec (.evcode id) s = .next (s.answer (.eventCode (idEventCode id))) := rfl

end Sys2Proof.Machine

namespace Sys2Proof.Proofs

open Sys2Proof.Machine

/-- Settles O6: a packed address has bits 28:24 zero, so packing gives the identifier back only where they were zero. -/
theorem encodeUndoesDecodeOnCanonicalIds : Obligations.EncodeUndoesDecodeOnCanonicalIds := by
  refine ⟨fun _ => packAddress_unpackAddress_of_canonical, fun id h => ⟨packAddress_unpackAddress id, ?_⟩,
    fun a => ⟨packAddress_canonical a, ?_⟩⟩
  · intro heq
    rw [← packAddress_unpackAddress] at heq
    exact h (heq ▸ packAddress_canonical (unpackAddress id))
  · rintro id h rfl
    exact (packAddress_unpackAddress_of_canonical h).symm

/-- Settles O7, by the two parts of an identifier, its bits 28:8 and its low byte. -/
theorem filterLaws : Obligations.FilterLaws :=
  ⟨stripLowByte_stripLowByte, stripLowByte_lowByte, stripLowByte_packAddress, stripLowByte_or_idEventCode⟩

/-- Settles O1, by the value of a packed address. -/
theorem encodePacksTheThreeFields : Obligations.EncodePacksTheThreeFields :=
  fun d p b s => ⟨_, exec_encode d p b s, toNat_packAddress ⟨d, p, b⟩⟩

/-- Settles O2, by the value of each byte of the unpacked address. -/
theorem decodeSplitsTheLow24Bits : Obligations.DecodeSplitsTheLow24Bits :=
  fun id s => ⟨_, exec_decode id s, toNat_idDevice id, toNat_idParameter id, toNat_idEventCode id⟩

/-- Settles O3, by the value of a stripped identifier. -/
theorem filterClearsTheLowByteOnly : Obligations.FilterClearsTheLowByteOnly :=
  fun id s => ⟨_, exec_filter id s, toNat_stripLowByte id⟩

/-- Settles O4, by the value of the event code. -/
theorem evcodeReadsTheLowByte : Obligations.EvcodeReadsTheLowByte :=
  fun id s => ⟨_, exec_evcode id s, toNat_idEventCode id⟩

/-- Settles O5: the reply of ENCODE is the packed address, and unpacking undoes packing. -/
theorem decodeUndoesEncode : Obligations.DecodeUndoesEncode := by
  intro d p b s t id h hr
  rw [exec_encode] at h
  obtain rfl := Host.Outcome.next.inj h
  obtain rfl := Reply.identifier.inj hr
  rw [exec_decode, unpackAddress_packAddress]
  rfl

end Sys2Proof.Proofs

/-! PROOFS of the statements about the transmit sequencer (41_tx_sequencer.md R74 to R83): what each of its transactions
answers and the turn that issues it, everything a turn can do to the sequencer said once, and the runs that follow. -/

namespace Sys2Proof.Machine

open Sys2Proof.Safety

/-! ### What the sequencer's transactions answer -/

section
variable {id : Id29} {len : BitVec 4} {l : Len} {data : Bytes8} {res : LinkResult} {s : State}

theorem exec_sendAccept_of_idle (hi : s.issuer = .txClient) (hl : lenOfField len = some l) (hq : s.seq = .idle) :
    exec (.sendAccept id len data) s = .next ((s.acceptRequest id l data).answer .done) := by
  simp [exec, execSendAccept, hi, hl, hq]

theorem exec_sendAccept_of_ne_idle (hi : s.issuer = .txClient) (hl : lenOfField len = some l) (hq : s.seq ≠ .idle) :
    exec (.sendAccept id len data) s = .next s.hold := by
  simp [exec, execSendAccept, hi, hl, hq]

theorem exec_sendIssue_of_issue (hi : s.issuer = .sequencer) (hq : s.seq = .issue) :
    exec (.sendIssue res) s = .next ((s.issueFrame res).answer .done) := by
  simp [exec, execSendIssue, hi, hq]

theorem exec_sendIssue_of_ne_issue (hi : s.issuer = .sequencer) (hq : s.seq ≠ .issue) :
    exec (.sendIssue res) s = .next s.hold := by
  simp [exec, execSendIssue, hi, hq]

theorem exec_sendFinish_of_permit (hi : s.issuer = .sequencer) (hq : s.seq = .wait) (hp : s.permit = true) :
    exec .sendFinish s = .next (s.endRequest.answerTo .txClient .sendReturned) := by
  simp [exec, execSendFinish, hi, hq, hp]

theorem exec_sendFinish_of_blocked (hi : s.issuer = .sequencer) (hb : Blocked .sendFinish s) :
    exec .sendFinish s = .next s.hold := by
  rw [exec, execSendFinish, onlyFrom_of_eq hi, if_neg hb]

theorem exec_txDone (hi : s.issuer = .linkEnv) : exec .txDone s = .next (s.releasePermit.answer .done) := by
  simp [exec, execTxDone, hi]

theorem exec_rxFrame_of_some {rtr : Bool} (hi : s.issuer = .linkEnv) (hl : lenOfField len = some l) :
    exec (.rxFrame id rtr len data) s = .next ((routeFrame Config.params id rtr l data s).answer .done) := by
  simp [exec, execRxFrame, hi, hl]

theorem exec_rxFrame_of_none {rtr : Bool} (hi : s.issuer = .linkEnv) (hl : lenOfField len = none) :
    exec (.rxFrame id rtr len data) s = .next s.refuse := by
  simp [exec, execRxFrame, hi, hl]

end

/-- A codec operation of any agent in any state answers a value and writes nothing (40_codec.md R73). -/
theorem exec_codec {i : Instr} (hc : isCodec i = true) (s : State) :
    ∃ r, exec i s = .next (s.answer r) ∧ r ≠ .held ∧ r ≠ .refused := by
  cases i with
  | encode d p b => exact ⟨_, exec_encode d p b s, nofun, nofun⟩
  | decode id => exact ⟨_, exec_decode id s, nofun, nofun⟩
  | filter id => exact ⟨_, exec_filter id s, nofun, nofun⟩
  | evcode id => exact ⟨_, exec_evcode id s, nofun, nofun⟩
  | _ => cases hc

/-- Inside its request the transmit client holds in whatever would not be refused and is no codec operation
(41_tx_sequencer.md R74). -/
theorem issue_eq_hold_of_insideRequest {i : Instr} {s : State} (hi : s.issuer = .txClient) (hq : s.seq ≠ .idle)
    (ha : .txClient ∈ allowed i) (hw : i.wellFormed = true) (hc : isCodec i = false) :
    issue i s = .next s.hold := by
  obtain ⟨t, ht, hr, -⟩ := exec_not_refused (hi ▸ ha : s.issuer ∈ allowed i) hw
  rcases heldBack_cases i s t with ⟨-, -, -, e⟩ | ⟨hfree, -⟩
  · rw [issue_of_exec ht, e]
  · exact absurd hfree (by simp [hi, hq, hc, hr])

/-! ### The permit of an idle sequencer -/

/-- The state with another permit. -/
def State.withPermit (b : Bool) (s : State) : State := { s with permit := b }

/-- No branch of the router reads the permit, and none writes it (42_router.md R84). -/
theorem routeFrame_withPermit (p : Config.Params) (id : Id29) (rtr : Bool) (l : Len) (d : Bytes8) (s : State)
    (b : Bool) : routeFrame p id rtr l d (s.withPermit b) = (routeFrame p id rtr l d s).withPermit b := by
  unfold routeFrame routeOther
  split_ifs <;> rfl

theorem popTrigger_withPermit (s : State) (b : Bool) :
    (s.withPermit b).popTrigger = s.popTrigger.withPermit b := by
  unfold State.popTrigger State.withPermit
  cases pop s.tq <;> rfl

theorem popCommand_withPermit (s : State) (b : Bool) :
    (s.withPermit b).popCommand = s.popCommand.withPermit b := by
  unfold State.popCommand State.withPermit
  cases pop s.cq <;> rfl

theorem popTrigger_seq (s : State) : s.popTrigger.seq = s.seq := by
  rcases popTrigger_cases s with ⟨-, e⟩ | ⟨_, _, -, e⟩ <;> simp [e]

theorem popCommand_seq (s : State) : s.popCommand.seq = s.seq := by
  rcases popCommand_cases s with ⟨-, e⟩ | ⟨_, _, -, e⟩ <;> simp [e]

/-- The states differ at most in the permit, and not at all while a request is in progress. -/
def SameButIdlePermit (s s' : State) : Prop := ∃ c, s' = s.withPermit c ∧ (s.seq ≠ .idle → c = s.permit)

theorem SameButIdlePermit.of_idle {s : State} (hq : s.seq = .idle) (b : Bool) :
    SameButIdlePermit s (s.withPermit b) :=
  ⟨b, rfl, absurd hq⟩

theorem SameButIdlePermit.refl (s : State) : SameButIdlePermit s s := ⟨s.permit, rfl, fun _ => rfl⟩

/-- An operation that does not read the permit and leaves the sequencer in IDLE. -/
theorem SameButIdlePermit.of_commutes {act : State → State} {s : State} {b : Bool} (hq : s.seq = .idle)
    (hact : act (s.withPermit b) = (act s).withPermit b) (hseq : (act s).seq = s.seq) :
    SameButIdlePermit (act s) (act (s.withPermit b)) := by
  rw [hact]
  exact .of_idle (hseq.trans hq) b

theorem SameButIdlePermit.onlyFrom {a : Agent} {act : State → State} {s : State} {b : Bool} (hq : s.seq = .idle)
    (h : SameButIdlePermit (act s) (act (s.withPermit b))) :
    SameButIdlePermit (onlyFrom a act s) (onlyFrom a act (s.withPermit b)) := by
  by_cases hi : s.issuer = a
  · rwa [onlyFrom_of_eq hi, onlyFrom_of_eq (s := s.withPermit b) hi]
  · rw [onlyFrom_of_ne hi, onlyFrom_of_ne (s := s.withPermit b) hi]
    exact .of_idle (s := s.refuse) hq b

/-- In IDLE no transaction reads the permit: SEND_ACCEPT discards it, TX_DONE and RESET write it, SEND_FINISH, the one
that would acquire it, holds, and the others leave it (20_memory.md R46). -/
theorem exec_withPermit_of_idle (i : Instr) {s : State} (hq : s.seq = .idle) (b : Bool) :
    ∃ t t', exec i s = .next t ∧ exec i (s.withPermit b) = .next t' ∧ SameButIdlePermit t t' := by
  have hq' : (s.withPermit b).seq = .idle := hq
  cases i with
  | encode | decode | filter | evcode | status =>
    exact ⟨_, _, rfl, rfl, .of_commutes (act := State.answer _) hq rfl rfl⟩
  | rxFrame id rtr len data =>
    refine ⟨_, _, rfl, rfl, .onlyFrom hq ?_⟩
    cases lenOfField len with
    | none => exact .of_commutes (act := State.refuse) hq rfl rfl
    | some l =>
      exact .of_commutes (act := fun s => (routeFrame Config.params id rtr l data s).answer .done) hq
        (congrArg (State.answer .done) (routeFrame_withPermit _ id rtr l data s b)) (by simp)
  | txDone => exact ⟨_, _, rfl, rfl, .onlyFrom hq (.refl (s.releasePermit.answer .done))⟩
  | sendAccept id len data =>
    refine ⟨_, _, rfl, rfl, .onlyFrom hq ?_⟩
    cases lenOfField len with
    | none => exact .of_commutes (act := State.refuse) hq rfl rfl
    | some l =>
      simp only [hq, hq', if_true]
      exact .refl ((s.acceptRequest id l data).answer .done)
  | sendIssue res =>
    refine ⟨_, _, rfl, rfl, .onlyFrom hq ?_⟩
    simp only [hq, hq', reduceCtorEq, if_false]
    exact .of_commutes hq rfl rfl
  | sendFinish =>
    refine ⟨_, _, rfl, rfl, .onlyFrom hq ?_⟩
    simp only [hq, hq', reduceCtorEq, false_and, if_false]
    exact .of_commutes hq rfl rfl
  | pushTrig t => exact ⟨_, _, rfl, rfl, .onlyFrom hq (.of_commutes hq rfl rfl)⟩
  | popTrig => exact ⟨_, _, rfl, rfl, .onlyFrom hq (.of_commutes hq (popTrigger_withPermit s b) (popTrigger_seq s))⟩
  | popCmd => exact ⟨_, _, rfl, rfl, .onlyFrom hq (.of_commutes hq (popCommand_withPermit s b) (popCommand_seq s))⟩
  | reset => exact ⟨_, _, rfl, rfl, .onlyFrom hq (.refl (s.resetBlock.answer .done))⟩

end Sys2Proof.Machine

namespace Sys2Proof.Safety

open Sys2Proof.Machine

/-! ### The turns of a request -/

/-- The state in which agent `a` issues and nothing is answered yet. -/
def asIssuer (a : Agent) (s : State) : State := s.begin a s.schedule

theorem take_of_issue {a : Agent} {i : Instr} {s t : State} (h : issue i (asIssuer a s) = .next t) :
    take (a, i) s = t := by
  have h' : issue i { s with issuer := a, replyTo := a, reply := .nothing } = .next t := h
  simp [take, h']

/-- A turn of any agent but the transmit client inside its request is its transaction's meaning. -/
theorem take_of_exec {a : Agent} {i : Instr} {s t : State} (hf : a ≠ .txClient ∨ s.seq = .idle)
    (h : exec i (asIssuer a s) = .next t) : take (a, i) s = t :=
  take_of_issue ((issue_eq_exec (.inl hf)).trans h)

section
variable {id : Id29} {len : BitVec 4} {l : Len} {data : Bytes8} {s : State}

theorem take_sendAccept (hl : lenOfField len = some l) (hq : s.seq = .idle) :
    take (.txClient, .sendAccept id len data) s = ((asIssuer .txClient s).acceptRequest id l data).answer .done :=
  take_of_exec (.inr hq) (exec_sendAccept_of_idle rfl hl hq)

theorem take_sendIssue (res : LinkResult) (hq : s.seq = .issue) :
    take (.sequencer, .sendIssue res) s = ((asIssuer .sequencer s).issueFrame res).answer .done :=
  take_of_exec (.inl nofun) (exec_sendIssue_of_issue rfl hq)

theorem take_txDone (s : State) : take (.linkEnv, .txDone) s = (asIssuer .linkEnv s).releasePermit.answer .done :=
  take_of_exec (.inl nofun) (exec_txDone rfl)

theorem take_sendFinish (hq : s.seq = .wait) (hp : s.permit = true) :
    take (.sequencer, .sendFinish) s = (asIssuer .sequencer s).endRequest.answerTo .txClient .sendReturned :=
  take_of_exec (.inl nofun) (exec_sendFinish_of_permit rfl hq hp)

theorem take_sendFinish_of_noPermit (hp : s.permit = false) :
    take (.sequencer, .sendFinish) s = (asIssuer .sequencer s).hold :=
  take_of_exec (.inl nofun) (exec_sendFinish_of_blocked rfl fun h => absurd (hp.symm.trans h.2) nofun)

/-- The transmit client inside its request (41_tx_sequencer.md R74). -/
theorem take_txClient_of_ne_idle {i : Instr} (hq : s.seq ≠ .idle) (ha : .txClient ∈ allowed i)
    (hw : i.wellFormed = true) (hc : isCodec i = false) : take (.txClient, i) s = (asIssuer .txClient s).hold :=
  take_of_issue (issue_eq_hold_of_insideRequest rfl hq ha hw hc)

theorem take_rxFrame_of_some {rtr : Bool} (hl : lenOfField len = some l) :
    take (.linkEnv, .rxFrame id rtr len data) s =
      (routeFrame Config.params id rtr l data (asIssuer .linkEnv s)).answer .done :=
  take_of_exec (.inl nofun) (exec_rxFrame_of_some rfl hl)

theorem take_rxFrame_of_none {rtr : Bool} (hl : lenOfField len = none) :
    take (.linkEnv, .rxFrame id rtr len data) s = (asIssuer .linkEnv s).refuse :=
  take_of_exec (.inl nofun) (exec_rxFrame_of_none rfl hl)

end

/-- A turn that holds answers `held` and leaves the block as it was. -/
theorem reply_blockOf_of_take_eq_hold {a : Agent} {i : Instr} {s : State} (h : take (a, i) s = (asIssuer a s).hold) :
    (take (a, i) s).reply = .held ∧ blockOf (take (a, i) s) = blockOf s := by
  rw [h]
  exact ⟨rfl, rfl⟩

/-! ### What a turn does to the sequencer -/

/-- The turns that accept a request, hand a frame over or complete one. -/
inductive Advances : Turn → State → Prop where
  | accept (id : Id29) (len : BitVec 4) (data : Bytes8) (s : State) (hl : lenInRange len = true) (hq : s.seq = .idle) :
      Advances (.txClient, .sendAccept id len data) s
  | hand (res : LinkResult) (s : State) (hq : s.seq = .issue) : Advances (.sequencer, .sendIssue res) s
  | complete (s : State) : Advances (.linkEnv, .txDone) s

theorem acceptedFrame_of_not_advances {e : Turn} {s : State} (h : ¬Advances e s) : acceptedFrame e s = [] := by
  unfold acceptedFrame
  split
  · split
    · exact absurd (.accept _ _ _ _ (lenOfField_isSome_iff.1 ⟨_, ‹_›⟩) ‹_›) h
    · rfl
  · rfl

theorem after_of_not_advances {e : Turn} {s : State} (h : ¬Advances e s) (k : LinkTally) : k.after e s = k := by
  unfold LinkTally.after
  split
  · split
    · exact absurd (.hand _ _ ‹_›) h
    · rfl
    · rfl
  · exact absurd (.complete _) h
  · rfl

/-- A turn that advances a request is a legal transaction of an agent 10_state.md R31 allows. -/
theorem not_advances_of_refused {a : Agent} {i : Instr} {s : State} (h : a ∉ allowed i ∨ i.wellFormed = false) :
    ¬Advances (a, i) s := by
  intro ha
  cases ha with
  | accept _ _ _ _ hl => simp [allowed, Instr.wellFormed, hl] at h
  | hand | complete => simp [allowed, Instr.wellFormed] at h

theorem not_advances_of_blocked {a : Agent} {i : Instr} {s : State} (h : Blocked i s) : ¬Advances (a, i) s := by
  intro ha
  cases ha with
  | accept _ _ _ _ _ hq => exact h hq
  | hand _ _ hq => exact h hq
  | complete => exact h

theorem not_advances_txClient {i : Instr} {s : State} (hq : s.seq ≠ .idle) : ¬Advances (.txClient, i) s := by
  intro ha
  cases ha with
  | accept _ _ _ _ _ h => exact hq h

/-- The sequencer's elements and the frames handed over are as they were. -/
structure SequencerKept (s t : State) : Prop where
  permit : t.permit = s.permit
  seq : t.seq = s.seq
  latch : t.latchedFrame = s.latchedFrame
  linkOut : t.linkOut = s.linkOut

/-- Everything an agent's transaction other than RESET can do to the sequencer. -/
inductive SequencerTurn : Turn → State → State → Prop where
  | still (e : Turn) (s t : State) (ha : ¬Advances e s) (hk : SequencerKept s t) : SequencerTurn e s t
  /-- 41_tx_sequencer.md R74. -/
  | accept (id : Id29) (len : BitVec 4) (l : Len) (data : Bytes8) (s : State) (hl : lenOfField len = some l)
      (hq : s.seq = .idle) :
      SequencerTurn (.txClient, .sendAccept id len data) s ((s.acceptRequest id l data).answer .done)
  /-- 41_tx_sequencer.md R75. -/
  | hand (res : LinkResult) (s : State) (hq : s.seq = .issue) :
      SequencerTurn (.sequencer, .sendIssue res) s ((s.issueFrame res).answer .done)
  /-- 41_tx_sequencer.md R77. -/
  | complete (s : State) : SequencerTurn (.linkEnv, .txDone) s (s.releasePermit.answer .done)
  /-- 41_tx_sequencer.md R76. -/
  | finish (s : State) (hq : s.seq = .wait) (hp : s.permit = true) :
      SequencerTurn (.sequencer, .sendFinish) s (s.endRequest.answerTo .txClient .sendReturned)

theorem sequencerTurn_of_moves {a : Agent} {i : Instr} {s t : State} (hm : Moves i s t) (ha : s.issuer = a)
    (hr : (a, i) ≠ (.platform, .reset)) : SequencerTurn (a, i) s t := by
  cases hm with
  | refused _ _ h => exact .still _ _ _ (not_advances_of_refused (ha ▸ h)) ⟨rfl, rfl, rfl, rfl⟩
  | held _ _ _ hb => exact .still _ _ _ (not_advances_of_blocked hb) ⟨rfl, rfl, rfl, rfl⟩
  | sendAccept id len l data _ hi hl hq => exact ha ▸ hi ▸ .accept id len l data s hl hq
  | sendIssue res _ hi hq => exact ha ▸ hi ▸ .hand res s hq
  | txDone _ hi => exact ha ▸ hi ▸ .complete s
  | sendFinish _ hi hq hp => exact ha ▸ hi ▸ .finish s hq hp
  | reset _ hi => exact absurd (congrArg (·, _) (ha.symm.trans hi)) hr
  | rxFrame => exact .still _ _ _ nofun ⟨by simp, by simp, by simp [State.latchedFrame], by simp⟩
  | _ => exact .still _ _ _ nofun ⟨rfl, rfl, rfl, rfl⟩

/-- A turn other than RESET moves the sequencer in one of these ways, in the state in which its agent issues. -/
theorem take_sequencerTurn {e : Turn} (hr : e ≠ (.platform, .reset)) (s : State) :
    SequencerTurn e (asIssuer e.1 s) (take e s) := by
  obtain ⟨a, i⟩ := e
  have hm := take_issues (a, i) s
  generalize take (a, i) s = t at hm ⊢
  cases hm with
  | blocked hi hq =>
    obtain rfl : a = .txClient := hi
    exact .still _ _ _ (not_advances_txClient hq) ⟨rfl, rfl, rfl, rfl⟩
  | moves _ _ hm => exact sequencerTurn_of_moves hm rfl hr

/-! ### The frames of the accepted requests -/

theorem inLatch_congr {s t : State} (hq : t.seq = s.seq) (hl : t.latchedFrame = s.latchedFrame) :
    inLatch t = inLatch s := by
  rw [inLatch, hq, hl, inLatch]

/-- What was handed over and what is in the latch grow by the request a turn accepts (20_memory.md R48). -/
theorem SequencerTurn.frames {e : Turn} {s t : State} (h : SequencerTurn e s t) :
    t.linkOut ++ inLatch t = s.linkOut ++ inLatch s ++ acceptedFrame e s := by
  cases h with
  | still _ _ _ ha hk =>
    rw [hk.linkOut, inLatch_congr hk.seq hk.latch, acceptedFrame_of_not_advances ha, List.append_nil]
  | accept id len l data _ hl hq => simp [inLatch, acceptedFrame, hl, hq, State.latchedFrame, usedBytes]
  | hand res _ hq => simp [inLatch, acceptedFrame, hq]
  | complete =>
    rw [inLatch_congr (t := s.releasePermit.answer .done) rfl rfl]
    exact (List.append_nil _).symm
  | finish _ hq => simp [inLatch, acceptedFrame, hq]

theorem frames_runTurns {es : List Turn} (hr : NoReset es) (s : State) :
    (runTurns es s).linkOut ++ inLatch (runTurns es s) = s.linkOut ++ inLatch s ++ acceptedFrames es s := by
  induction es generalizing s with
  | nil => exact (List.append_nil _).symm
  | cons e es ih =>
    obtain ⟨he, hes⟩ := noReset_cons.1 hr
    have hturn : (take e s).linkOut ++ inLatch (take e s) = s.linkOut ++ inLatch s ++ acceptedFrame e s :=
      (take_sequencerTurn he s).frames
    rw [runTurns_cons, ih hes, hturn, acceptedFrames, List.append_assoc _ (acceptedFrame e s)]

/-! ### Serialization -/

/-- How many frames were handed over and await their completion, as the sequencer's state shows it. -/
def unacknowledged (s : State) : Nat := if s.seq = .wait ∧ s.permit = false then 1 else 0

/-- The tally of a run under the well-behaved link premise (41_tx_sequencer.md R79): every frame handed over but the one
awaited has its completion, and an accepted request still has its permit cleared. -/
structure Serialized (s : State) (k : LinkTally) : Prop where
  ok_le : k.handedOk ≤ k.handed
  balance : k.completed + unacknowledged s = k.handed
  cleared : s.seq = .issue → s.permit = false

theorem serialized_zero {s : State} (hq : s.seq = .idle) : Serialized s .zero where
  ok_le := Nat.le_refl 0
  balance := by simp [unacknowledged, hq, LinkTally.zero]
  cleared := by simp [hq]

theorem hand_counts (res : LinkResult) (k : LinkTally) :
    (k.hand res).completed = k.completed ∧ (k.hand res).handed = k.handed + 1 ∧
      (k.hand res).handedOk ≤ k.handedOk + 1 := by
  cases res <;> simp [LinkTally.hand]

theorem SequencerTurn.serialized {e : Turn} {s t : State} {k : LinkTally} (h : SequencerTurn e s t)
    (hk : Serialized s k) (hw : e = (.linkEnv, .txDone) → k.completed < k.handedOk) :
    Serialized t (k.after e s) := by
  obtain ⟨hle, hbal, hclr⟩ := hk
  cases h with
  | still _ _ _ ha hk =>
    rw [after_of_not_advances ha]
    exact ⟨hle, by rwa [unacknowledged, hk.seq, hk.permit], by rwa [hk.seq, hk.permit]⟩
  | accept _ _ _ _ _ _ hq => exact ⟨hle, by simpa [LinkTally.after, unacknowledged, hq] using hbal, fun _ => rfl⟩
  | hand res _ hq =>
    have hall : k.completed = k.handed := by simpa [unacknowledged, hq] using hbal
    obtain ⟨hcompleted, hhanded, hok⟩ := hand_counts res k
    rw [after_of_handsFrame ⟨rfl, hq⟩]
    exact ⟨by omega, by simp [unacknowledged, hclr hq, hcompleted, hhanded, hall], nofun⟩
  | complete =>
    have hlt : k.completed < k.handedOk := hw rfl
    have hone : s.seq = .wait ∧ s.permit = false := by
      by_contra hn
      rw [unacknowledged, if_neg hn] at hbal
      omega
    rw [unacknowledged, if_pos hone] at hbal
    exact ⟨hle, by simpa [LinkTally.after, unacknowledged] using hbal, by simp [hone.1]⟩
  | finish _ hq hp => exact ⟨hle, by simpa [unacknowledged, hq, hp, LinkTally.after] using hbal, nofun⟩

theorem serialized_runTurns {es : List Turn} (hr : NoReset es) {s : State} {k : LinkTally} (hk : Serialized s k)
    (hw : WellBehavedLink es s k) : Serialized (runTurns es s) (tallyRun es s k) := by
  induction es generalizing s k with
  | nil => exact hk
  | cons e es ih =>
    obtain ⟨he, hes⟩ := noReset_cons.1 hr
    obtain ⟨hlink, hlater⟩ := hw
    have hissuer : Serialized (asIssuer e.1 s) k := ⟨hk.ok_le, hk.balance, hk.cleared⟩
    exact ih hes ((take_sequencerTurn he s).serialized hissuer hlink) hlater

/-! ### A request with no permit -/

/-- Without a completion a request with no permit only moves from ISSUE to WAIT (41_tx_sequencer.md R78). -/
theorem SequencerTurn.noPermit {e : Turn} {s t : State} (h : SequencerTurn e s t) (hc : e ≠ (.linkEnv, .txDone))
    (hq : s.seq ≠ .idle) (hp : s.permit = false) : t.permit = false ∧ (t.seq = s.seq ∨ t.seq = .wait) := by
  cases h with
  | still _ _ _ _ hk => exact ⟨hk.permit.trans hp, .inl hk.seq⟩
  | accept _ _ _ _ _ _ hi => exact absurd hi hq
  | hand => exact ⟨hp, .inr rfl⟩
  | complete => exact absurd rfl hc
  | finish _ _ hp' => exact absurd (hp.symm.trans hp') nofun

theorem noPermit_runTurns {es : List Turn} (hr : NoReset es) (hc : NoCompletion es) {s : State} (hq : s.seq ≠ .idle)
    (hp : s.permit = false) :
    (runTurns es s).permit = false ∧ ((runTurns es s).seq = s.seq ∨ (runTurns es s).seq = .wait) := by
  induction es generalizing s with
  | nil => exact ⟨hp, .inl rfl⟩
  | cons e es ih =>
    obtain ⟨he, hes⟩ := noReset_cons.1 hr
    obtain ⟨hce, hces⟩ := noCompletion_cons.1 hc
    obtain ⟨hpt, hqt⟩ := (take_sequencerTurn he s).noPermit hce hq hp
    have hqt : (take e s).seq = s.seq ∨ (take e s).seq = .wait := hqt
    have hne : (take e s).seq ≠ .idle := by
      rcases hqt with h | h <;> simp [h, hq]
    obtain ⟨hpr, hqr⟩ := ih hes hces hne hpt
    refine ⟨hpr, ?_⟩
    rcases hqr with h | h
    · exact hqt.imp h.trans h.trans
    · exact .inr h

/-- A sequencer that waits with no permit counts no failed start until a completion comes. -/
theorem errCount_runTurns_of_wait {es : List Turn} (hr : NoReset es) (hc : NoCompletion es) {s : State}
    (hq : s.seq = .wait) (hp : s.permit = false) : (runTurns es s).errCount = s.errCount := by
  induction es generalizing s with
  | nil => rfl
  | cons e es ih =>
    obtain ⟨he, hes⟩ := noReset_cons.1 hr
    obtain ⟨hce, hces⟩ := noCompletion_cons.1 hc
    obtain ⟨hpt, hqt⟩ := (take_sequencerTurn he s).noPermit hce (by simp [asIssuer, hq]) hp
    have hnh : ∀ res, ¬HandsFrame res e s := fun res h => absurd (hq.symm.trans h.2) nofun
    exact (ih hes hces (hqt.elim (·.trans hq) id) hpt).trans (take_of_not_handsFrame hnh he).2

/-! ### Two runs that differ in a stale permit -/

theorem sameButIdlePermit_take {s s' : State} (h : SameButIdlePermit s s') (e : Turn) :
    SameButIdlePermit (take e s) (take e s') := by
  obtain ⟨c, rfl, hc⟩ := h
  by_cases hq : s.seq = .idle
  · obtain ⟨t, t', ht, ht', hsame⟩ := exec_withPermit_of_idle e.2 (s := asIssuer e.1 s) hq c
    rwa [take_of_exec (a := e.1) (.inr hq) ht, take_of_exec (a := e.1) (s := s.withPermit c) (.inr hq) ht']
  · obtain rfl := hc hq
    exact .refl _

theorem sameButIdlePermit_runTurns {s s' : State} (h : SameButIdlePermit s s') (es : List Turn) :
    SameButIdlePermit (runTurns es s) (runTurns es s') := by
  induction es generalizing s s' with
  | nil => exact h
  | cons e es ih => exact ih (sameButIdlePermit_take h e)

end Sys2Proof.Safety

namespace Sys2Proof.Proofs

open Sys2Proof.Machine Sys2Proof.Safety

/-- Settles O18, by the invariant `Serialized`: in ISSUE, and in WAIT with a permit, no frame awaits its completion. -/
theorem transmissionIsSerialized : Obligations.TransmissionIsSerialized := by
  intro s es hq hr hw
  obtain ⟨-, hbal, -⟩ := serialized_runTurns hr (serialized_zero hq) hw
  exact ⟨fun hi => by simpa [unacknowledged, hi] using hbal, fun _ hp => by simpa [unacknowledged, hp] using hbal⟩

/-- Settles O19: each turn keeps the two states the same but for the permit of an idle sequencer. -/
theorem stalePermitIsUnobservable : Obligations.StalePermitIsUnobservable :=
  fun _ b es hq => sameButIdlePermit_runTurns (.of_idle hq b) es

/-- Settles O20: each turn moves frames from the accepted requests to the latch and from the latch to the link. -/
theorem framesReachTheLinkInRequestOrder : Obligations.FramesReachTheLinkInRequestOrder := by
  intro s es hq hr
  rw [frames_runTurns hr, inLatch, hq, List.append_nil]

/-- Settles O17: without a permit a request only moves from ISSUE to WAIT. -/
theorem noCompletionNoFinish : Obligations.NoCompletionNoFinish := by
  intro s es hq hp hr hc
  obtain ⟨hp', hq'⟩ := noPermit_runTurns hr hc hq hp
  exact ⟨by rcases hq' with h | h <;> simp [h, hq], hp'⟩

/-- Settles O59: the client's transaction would not be refused, so it is held back; a codec operation never is. -/
theorem transmitClientHoldsInsideItsRequest : Obligations.TransmitClientHoldsInsideItsRequest := by
  refine ⟨fun s t rest r i hw hq hs ht hd ha hc => ?_, fun i s hc => ?_⟩
  · obtain ⟨hi, hb, -⟩ := takeRequest_frame ht
    have hqt : t.seq ≠ .idle := fun h => hq ((congrArg Block.seq hb).symm.trans h)
    have hhold := issue_eq_hold_of_insideRequest hi hqt ha (decode_eq_ok hd).2 hc
    exact ⟨_, (step_eq_perform hs ht).trans (perform_of_issue hd hhold), rfl, hold_settle_retries hw ht⟩
  · rw [issue_eq_exec (.inr hc)]
    exact exec_codec hc s

/-- Settles O60: after the failed start the sequencer is in WAIT with no permit, and stays so. -/
theorem failedStartHangsTheTransmitPath : Obligations.FailedStartHangsTheTransmitPath := by
  intro s es hq hp hr hc
  refine ⟨_, rfl, ?_⟩
  rw [runTurns_cons, take_sendIssue .fail hq]
  generalize hs' : ((asIssuer .sequencer s).issueFrame .fail).answer .done = s'
  have hq' : s'.seq = .wait := hs' ▸ rfl
  have hp' : s'.permit = false := hs' ▸ hp
  have herr : s'.errCount = s.errCount + 1 := hs' ▸ rfl
  obtain ⟨hpu, hqu⟩ := noPermit_runTurns hr hc (by simp [hq']) hp'
  have hqu : (runTurns es s').seq = .wait := hqu.elim (·.trans hq') id
  have herru := (errCount_runTurns_of_wait hr hc hq' hp').trans herr
  generalize runTurns es s' = u at *
  obtain ⟨hheld, hblock⟩ := reply_blockOf_of_take_eq_hold (take_sendFinish_of_noPermit hpu)
  exact ⟨hqu, hpu, herru, hheld, hblock, fun i ha hw hcod =>
    reply_blockOf_of_take_eq_hold (take_txClient_of_ne_idle (by simp [hqu]) ha hw hcod)⟩

/-- Settles O8: in IDLE the guard of R74 is open, and a `len` of 0..8 spells a `Len`. -/
theorem sendAcceptLatchesTheRequest : Obligations.SendAcceptLatchesTheRequest :=
  fun _ _ _ _ _ hi hl hq => exec_sendAccept_of_idle hi (lenOfField_eq_some.2 hl) hq

/-- Settles O9: a legal length spells a `Len`, so only the guard of R74 decides. -/
theorem sendAcceptHoldsUnlessIdle : Obligations.SendAcceptHoldsUnlessIdle := by
  intro id len data s hi hl hq
  obtain ⟨l, hl⟩ := lenOfField_isSome_iff.2 (lenInRange_iff.2 hl)
  exact exec_sendAccept_of_ne_idle hi hl hq

/-- Settles O10, by the value of each counter. -/
theorem sendIssueHandsTheFrameAndCounts : Obligations.SendIssueHandsTheFrameAndCounts := by
  intro res s hi hq
  refine ⟨s.sendCount + 1, countFail res s.errCount, exec_sendIssue_of_issue hi hq, BitVec.toNat_add _ _, ?_⟩
  cases res with
  | ok => exact (Nat.mod_eq_of_lt s.errCount.isLt).symm
  | fail => exact BitVec.toNat_add s.errCount 1

/-- Settles O11: the guard of R75 is `ISSUE`. -/
theorem sendIssueHoldsUnlessIssue : Obligations.SendIssueHoldsUnlessIssue :=
  fun _ _ hi hq => exec_sendIssue_of_ne_issue hi hq

/-- Settles O12: the guard of R76 is open. -/
theorem sendFinishTakesThePermit : Obligations.SendFinishTakesThePermit :=
  fun _ hi hq hp => exec_sendFinish_of_permit hi hq hp

/-- Settles O13: either disjunct shuts the guard of R76. -/
theorem sendFinishHoldsWithoutPermit : Obligations.SendFinishHoldsWithoutPermit := by
  intro s hi h
  refine exec_sendFinish_of_blocked hi fun ⟨hq, hp⟩ => ?_
  rcases h with hn | hn
  · exact hn hq
  · simp [hp] at hn

/-- Settles O14: R77 has no guard but the issuer. -/
theorem txDoneReleasesThePermit : Obligations.TxDoneReleasesThePermit :=
  fun _ hi => exec_txDone hi

/-- Settles O15, turn by turn. -/
theorem wholeRequestEndsInIdle : Obligations.WholeRequestEndsInIdle := by
  intro id len l data s hl hq
  rw [runTurns_cons, take_sendAccept (lenOfField_eq_some.2 hl) hq, runTurns_cons, take_sendIssue .ok (by rfl),
    runTurns_cons, take_txDone, runTurns_cons, take_sendFinish (by rfl) (by rfl), runTurns_nil]
  simp [asIssuer, State.begin, State.acceptRequest, State.issueFrame, State.releasePermit, State.endRequest,
    State.answer, State.answerTo, State.latchedFrame, usedBytes, permitTaken]

/-- Settles O16: the permit released in ISSUE is the one the request takes in WAIT. -/
theorem strayCompletionEndsTheRequestEarly : Obligations.StrayCompletionEndsTheRequestEarly := by
  intro res s hq
  have hissue : ((asIssuer .linkEnv s).releasePermit.answer .done).seq = .issue := hq
  simp only [runTurns_cons, runTurns_nil, take_txDone, take_sendIssue res hissue]
  rw [take_sendFinish (by rfl) (by rfl)]
  exact ⟨rfl, rfl⟩

/-- Settles O57: TX_DONE writes the permit alone, which no branch of the router reads. -/
theorem pendingEventsCommute : Obligations.PendingEventsCommute := by
  intro id rtr len data s
  simp only [runTurns_cons, runTurns_nil, take_txDone]
  cases hl : lenOfField len with
  | none =>
    rw [take_rxFrame_of_none hl, take_rxFrame_of_none hl]
    simp [blockOf, asIssuer]
  | some l =>
    rw [take_rxFrame_of_some hl, take_rxFrame_of_some hl]
    have hpending : asIssuer .linkEnv ((asIssuer .linkEnv s).releasePermit.answer .done) =
        (asIssuer .linkEnv s).withPermit true := rfl
    rw [hpending, routeFrame_withPermit]
    simp [blockOf, asIssuer, State.withPermit]

end Sys2Proof.Proofs

/-! PROOFS of the statements about the inbound router (42_router.md R84 to R92): the triggers a frame offers by branch, the
state after a frame as what fits of the offers in each queue, and the branches read off from that. -/

namespace Sys2Proof.Safety

open Sys2Proof.Machine

/-! ### What fits of the items offered -/

section
variable {α : Type} {depth n : Nat} {xs : List α} {q q' : CountedQueue α}

theorem fitting_of_full (h : depth ≤ n) : fitting depth n xs = [] := by
  simp [fitting, Nat.sub_eq_zero_of_le h]

theorem fitting_of_room (h : n + xs.length ≤ depth) : fitting depth n xs = xs :=
  List.take_of_length_le (by omega)

theorem fitting_cons_of_lt (h : n < depth) (x : α) :
    fitting depth n (x :: xs) = x :: fitting depth (n + 1) xs := by
  have hroom : depth - n = depth - (n + 1) + 1 := by omega
  rw [fitting, hroom, List.take_succ_cons, fitting]

theorem Offers.items_eq (h : Offers depth xs q q') : q'.items = q.items ++ fitting depth q.items.length xs :=
  h.fifo.symm

theorem Offers.drops_eq (h : Offers depth xs q q') :
    q'.drops = q.drops + BitVec.ofNat 32 (xs.length - (depth - q.items.length)) := by
  have hlen : xs.length - (fitting depth q.items.length xs).length = xs.length - (depth - q.items.length) := by
    rw [fitting, List.length_take]
    omega
  rw [h.drops, hlen]

end

/-! ### The triggers a frame offers, branch by branch -/

section
variable (p : Config.Params) (id : Id29) (rtr : Bool)

/-- What the CONFIG branch offers the trigger queue, where the event reaches it (42_router.md R86, R87). -/
def configTriggers : List Trig :=
  if idDevice id = p.configId ∧ rtr = true ∧ (idDevice id = p.logId → p.logFallthrough = true)
    then [deviceTrigger p.configId] else []

/-- What the LOG and the CONFIG branch offer the trigger queue, in order (42_router.md R84). -/
def frameTriggers : List Trig :=
  (if idDevice id = p.logId then [logTrigger (idEventCode id)] else []) ++ configTriggers p id rtr

theorem offeredTriggers_eq_frameTriggers {len : BitVec 4} (hl : lenInRange len = true) (data : Bytes8) :
    offeredTriggers p (.linkEnv, .rxFrame id rtr len data) = frameTriggers p id rtr :=
  offeredTriggers_rxFrame p id rtr len data hl

end

section
variable {p : Config.Params} {id : Id29} {rtr : Bool}

theorem configTriggers_of_read (hd : idDevice id = p.configId) (hr : rtr = true)
    (hf : idDevice id = p.logId → p.logFallthrough = true) : configTriggers p id rtr = [deviceTrigger p.configId] :=
  if_pos ⟨hd, hr, hf⟩

theorem configTriggers_of_not_read (h : ¬(idDevice id = p.configId ∧ rtr = true)) : configTriggers p id rtr = [] :=
  if_neg fun ⟨hd, hr, _⟩ => h ⟨hd, hr⟩

theorem configTriggers_of_ended (hd : idDevice id = p.logId) (hf : p.logFallthrough = false) :
    configTriggers p id rtr = [] :=
  if_neg fun ⟨_, _, h⟩ => by simp [h hd] at hf

theorem configTriggers_length_le : (configTriggers p id rtr).length ≤ 1 := by
  unfold configTriggers
  split <;> simp

theorem frameTriggers_of_log (hd : idDevice id = p.logId) :
    frameTriggers p id rtr = logTrigger (idEventCode id) :: configTriggers p id rtr := by
  rw [frameTriggers, if_pos hd, List.singleton_append]

theorem frameTriggers_of_not_log (hd : idDevice id ≠ p.logId) : frameTriggers p id rtr = configTriggers p id rtr := by
  rw [frameTriggers, if_neg hd, List.nil_append]

theorem frameTriggers_length_le : (frameTriggers p id rtr).length ≤ 2 := by
  have hc := configTriggers_length_le (p := p) (id := id) (rtr := rtr)
  by_cases hd : idDevice id = p.logId
  · rw [frameTriggers_of_log hd, List.length_cons]
    omega
  · rw [frameTriggers_of_not_log hd]
    omega

theorem not_reachesCommand_of_read (hd : idDevice id = p.configId) (hr : rtr = true) : ¬reachesCommand p id rtr :=
  fun ⟨_, hn, _⟩ => hn ⟨hd, hr⟩

theorem not_reachesCommand_of_ended (hd : idDevice id = p.logId) (hf : p.logFallthrough = false) :
    ¬reachesCommand p id rtr := fun ⟨_, _, h⟩ => by simp [h hd] at hf

theorem not_reachesCommand_of_zero (hd : idDevice id = 0) : ¬reachesCommand p id rtr := fun ⟨hn, _⟩ => hn hd

end

/-! ### The two queues after a frame -/

section
variable (p : Config.Params) (id : Id29) (rtr : Bool) (l : Len) (data : Bytes8) (s : State)

theorem offers_routeFrame_frameTriggers :
    Offers 128 (frameTriggers p id rtr) (trigQueue s) (trigQueue (routeFrame p id rtr l data s)) := by
  rw [← offeredTriggers_eq_frameTriggers p id rtr (len := 0) rfl data]
  exact offers_routeFrame_trigQueue p id rtr 0 l data s rfl

theorem routeFrame_tq :
    (routeFrame p id rtr l data s).tq = s.tq ++ fitting 128 s.tq.length (frameTriggers p id rtr) :=
  (offers_routeFrame_frameTriggers p id rtr l data s).items_eq

theorem routeFrame_tqDropCount : (routeFrame p id rtr l data s).tqDropCount =
    s.tqDropCount + BitVec.ofNat 32 ((frameTriggers p id rtr).length - (128 - s.tq.length)) :=
  (offers_routeFrame_frameTriggers p id rtr l data s).drops_eq

/-- The command a frame offers: one where it reaches the command branch, built from the state after the frame was read
(42_router.md R85, R88). -/
def frameCommands : List CmdMsg :=
  if reachesCommand p id rtr then [(routeFrame p id rtr l data s).commandFor id l] else []

theorem routeFrame_cq :
    (routeFrame p id rtr l data s).cq = s.cq ++ fitting 64 s.cq.length (frameCommands p id rtr l data s) :=
  (offers_routeFrame_cmdQueue p id rtr l data s).items_eq

theorem routeFrame_cqDropCount : (routeFrame p id rtr l data s).cqDropCount =
    s.cqDropCount + BitVec.ofNat 32 ((frameCommands p id rtr l data s).length - (64 - s.cq.length)) :=
  (offers_routeFrame_cmdQueue p id rtr l data s).drops_eq

theorem routeOther_writes : ∃ tq tqDrops cq cqDrops, routeOther p id rtr l s =
    { s with tq := tq, tqDropCount := tqDrops, cq := cq, cqDropCount := cqDrops } := by
  rcases routeOther_cases p id rtr l s with ⟨_, _, e⟩ | ⟨_, _, e⟩ | ⟨_, _, e⟩
  all_goals exact ⟨_, _, _, _, e⟩

theorem routeFrame_writes : ∃ rxBuf tq tqDrops cq cqDrops, routeFrame p id rtr l data s =
    { s with rxBuf := rxBuf, tq := tq, tqDropCount := tqDrops, cq := cq, cqDropCount := cqDrops,
             drawCount := s.drawCount + 1 } := by
  rcases routeFrame_cases p id rtr l data s with ⟨_, _, e⟩ | ⟨_, _, e⟩ | ⟨_, e⟩
  · obtain ⟨_, _, _, _, e'⟩ := routeOther_writes p id rtr l
      ((s.latchScratch l data).pushTrigger (logTrigger (idEventCode id)))
    exact ⟨_, _, _, _, _, e.trans e'⟩
  · exact ⟨_, _, _, _, _, e⟩
  · obtain ⟨_, _, _, _, e'⟩ := routeOther_writes p id rtr l (s.latchScratch l data)
    exact ⟨_, _, _, _, _, e.trans e'⟩

/-- The whole state after a frame (42_router.md R84): each queue takes what fits and counts the rest. -/
theorem routeFrame_eq : routeFrame p id rtr l data s =
    { s with rxBuf := (routeFrame p id rtr l data s).rxBuf
             tq := s.tq ++ fitting 128 s.tq.length (frameTriggers p id rtr)
             tqDropCount := s.tqDropCount + BitVec.ofNat 32 ((frameTriggers p id rtr).length - (128 - s.tq.length))
             cq := s.cq ++ fitting 64 s.cq.length (frameCommands p id rtr l data s)
             cqDropCount := s.cqDropCount +
               BitVec.ofNat 32 ((frameCommands p id rtr l data s).length - (64 - s.cq.length))
             drawCount := s.drawCount + 1 } := by
  rw [← routeFrame_tq p id rtr l data s, ← routeFrame_tqDropCount p id rtr l data s,
    ← routeFrame_cq p id rtr l data s, ← routeFrame_cqDropCount p id rtr l data s]
  obtain ⟨_, _, _, _, _, e⟩ := routeFrame_writes p id rtr l data s
  rw [e]

/-- Below `len` the scratch buffer holds the frame's bytes (42_router.md R85). -/
theorem routeFrame_rxBuf_of_lt {i : Nat} (h : i < 8) (hl : i < l.val) :
    (routeFrame p id rtr l data s).rxBuf[i] = data[i] := by
  simp only [routeFrame_rxBuf, presentedBytes_of_lt h hl]

end

section
variable {p : Config.Params} {id : Id29} {rtr : Bool} {l : Len} {data : Bytes8} {s : State}

theorem routeFrame_tq_of_room (h : s.tq.length + (frameTriggers p id rtr).length ≤ 128) :
    (routeFrame p id rtr l data s).tq = s.tq ++ frameTriggers p id rtr := by
  rw [routeFrame_tq, fitting_of_room h]

/-- With room for one trigger a LOG frame's event code is taken, whatever becomes of the rest (42_router.md R86). -/
theorem routeFrame_tq_of_log (hd : idDevice id = p.logId) (h : s.tq.length < 128) :
    (routeFrame p id rtr l data s).tq =
      s.tq ++ logTrigger (idEventCode id) :: fitting 128 (s.tq.length + 1) (configTriggers p id rtr) := by
  rw [routeFrame_tq, frameTriggers_of_log hd, fitting_cons_of_lt h]

theorem routeFrame_tq_of_full (h : 128 ≤ s.tq.length) : (routeFrame p id rtr l data s).tq = s.tq := by
  rw [routeFrame_tq, fitting_of_full h, List.append_nil]

theorem routeFrame_tqDropCount_of_full (h : 128 ≤ s.tq.length) : (routeFrame p id rtr l data s).tqDropCount =
    s.tqDropCount + BitVec.ofNat 32 (frameTriggers p id rtr).length := by
  rw [routeFrame_tqDropCount, Nat.sub_eq_zero_of_le h, Nat.sub_zero]

theorem frameCommands_of_reaches (h : reachesCommand p id rtr) :
    frameCommands p id rtr l data s = [(routeFrame p id rtr l data s).commandFor id l] := if_pos h

theorem frameCommands_of_not_reaches (h : ¬reachesCommand p id rtr) : frameCommands p id rtr l data s = [] := if_neg h

theorem routeFrame_cq_of_reaches (h : reachesCommand p id rtr) (hq : s.cq.length < 64) :
    (routeFrame p id rtr l data s).cq = s.cq ++ [(routeFrame p id rtr l data s).commandFor id l] := by
  rw [routeFrame_cq, frameCommands_of_reaches h, fitting_cons_of_lt hq, fitting_nil]

theorem routeFrame_cq_of_not_reaches (h : ¬reachesCommand p id rtr) : (routeFrame p id rtr l data s).cq = s.cq := by
  rw [routeFrame_cq, frameCommands_of_not_reaches h, fitting_nil, List.append_nil]

theorem routeFrame_cq_of_full (h : 64 ≤ s.cq.length) : (routeFrame p id rtr l data s).cq = s.cq := by
  rw [routeFrame_cq, fitting_of_full h, List.append_nil]

theorem routeFrame_cqDropCount_of_full (hc : reachesCommand p id rtr) (h : 64 ≤ s.cq.length) :
    (routeFrame p id rtr l data s).cqDropCount = s.cqDropCount + 1 := by
  rw [routeFrame_cqDropCount, frameCommands_of_reaches hc, Nat.sub_eq_zero_of_le h]
  rfl

end

/-! ### The request flag -/

section
variable {p : Config.Params} {id : Id29}

theorem routeOther_flag (h : idDevice id ≠ p.configId) (rtr : Bool) (l : Len) (s : State) :
    routeOther p id rtr l s = if idDevice id ≠ 0 then s.pushCommand (s.commandFor id l) else s :=
  if_neg fun ⟨hd, _⟩ => h hd

theorem routeFrame_flag (h : idDevice id ≠ p.configId) (rtr rtr' : Bool) (l : Len) (data : Bytes8) (s : State) :
    routeFrame p id rtr l data s = routeFrame p id rtr' l data s := by
  simp only [routeFrame, routeOther_flag h]

end

end Sys2Proof.Safety

namespace Sys2Proof.Proofs

open Sys2Proof.Machine Sys2Proof.Safety

/-- Settles O22: the router's state as what fits of the offers, with the offers in the statement's own terms. -/
theorem routerQueuesWhatTheBranchesOffer : Obligations.RouterQueuesWhatTheBranchesOffer := by
  intro p id rtr len l data s hl
  have hr : lenInRange len = true := lenOfField_isSome_iff.1 ⟨l, lenOfField_eq_some.2 hl⟩
  refine ⟨(routeFrame p id rtr l data s).rxBuf, frameTriggers p id rtr, frameCommands p id rtr l data s,
    fun _ h hi => routeFrame_rxBuf_of_lt p id rtr l data s h hi,
    (offeredTriggers_eq_frameTriggers p id rtr hr data).symm, rfl, routeFrame_eq p id rtr l data s⟩

/-- Settles O24: the LOG branch comes first; the command branch is reached where the frame falls through. -/
theorem logFramePushesItsEventCode : Obligations.LogFramePushesItsEventCode := by
  intro p id rtr l data s hd htq hcq
  refine ⟨⟨_, _, routeFrame_tq_of_log hd htq, viewTrigger_trigWord 0x01 _, fun hf => ?_⟩, fun hf => ?_, fun hf h0 hn => ?_⟩
  · rw [configTriggers_of_ended hd hf, fitting_nil]
  · exact routeFrame_cq_of_not_reaches (not_reachesCommand_of_ended hd hf)
  · have hreach : reachesCommand p id rtr := ⟨hd ▸ h0, fun ⟨hc, hr⟩ => hn ⟨hc.symm.trans hd, hr⟩, fun _ => hf⟩
    exact ⟨_, routeFrame_cq_of_reaches hreach hcq, hd, rfl⟩

/-- Settles O25: the request flag decides between the CONFIG and the command branch. -/
theorem configRemoteReadPushesTheConfigTrigger : Obligations.ConfigRemoteReadPushesTheConfigTrigger := by
  intro p id l data s hd hne htq hcq
  have hlog : idDevice id ≠ p.logId := hd ▸ hne
  have hread : frameTriggers p id true = [deviceTrigger p.configId] :=
    (frameTriggers_of_not_log hlog).trans (configTriggers_of_read hd rfl fun h => absurd h hlog)
  have hdata : frameTriggers p id false = [] :=
    (frameTriggers_of_not_log hlog).trans (configTriggers_of_not_read nofun)
  refine ⟨⟨deviceTrigger p.configId, ?_, viewTrigger_trigWord 0x00 _⟩, ?_, ?_, fun h0 => ?_⟩
  · rw [routeFrame_tq, hread, fitting_cons_of_lt htq, fitting_nil]
  · exact routeFrame_cq_of_not_reaches (not_reachesCommand_of_read hd rfl)
  · rw [routeFrame_tq, hdata, fitting_nil, List.append_nil]
  · have hreach : reachesCommand p id false := ⟨hd ▸ h0, nofun, fun h => absurd h hlog⟩
    exact ⟨_, routeFrame_cq_of_reaches hreach hcq, hd, rfl⟩

/-- Settles O26: the queue only grows at its tail, by the one record the command branch builds. -/
theorem commandFrameQueuesOneRecord : Obligations.CommandFrameQueuesOneRecord := by
  intro p id rtr l data s
  refine ⟨routeFrame_cq p id rtr l data s ▸ List.prefix_append _ _, fun hreach hcq => ?_⟩
  exact ⟨routeFrame_cq_of_reaches hreach hcq, fun _ h hi => routeFrame_rxBuf_of_lt p id rtr l data s h hi⟩

/-- Settles O28: a full queue takes nothing of what it is offered, and what the other queue is offered does not depend on
it. -/
theorem fullQueuesDropAndCount : Obligations.FullQueuesDropAndCount := by
  intro p id rtr l data s
  refine ⟨fun hd htq hn => ?_, fun hd hr hlog htq => ?_, fun hreach hcq => ?_⟩
  · have hone : frameTriggers p id rtr = [logTrigger (idEventCode id)] := by
      rw [frameTriggers_of_log hd, configTriggers_of_not_read hn]
    refine ⟨routeFrame_tq_of_full htq.ge, ?_, fun h0 hf hcq => ?_⟩
    · rw [routeFrame_tqDropCount_of_full htq.ge, hone]
      rfl
    · rw [routeFrame_cq_of_reaches ⟨h0, hn, fun _ => hf⟩ hcq, List.length_append, List.length_singleton]
  · have hone : frameTriggers p id rtr = [deviceTrigger p.configId] :=
      (frameTriggers_of_not_log hlog).trans (configTriggers_of_read hd hr fun h => absurd h hlog)
    refine ⟨routeFrame_tq_of_full htq.ge, ?_, routeFrame_cq_of_not_reaches (not_reachesCommand_of_read hd hr)⟩
    rw [routeFrame_tqDropCount_of_full htq.ge, hone]
    rfl
  · refine ⟨routeFrame_cq_of_full hcq.ge, routeFrame_cqDropCount_of_full hreach hcq.ge, fun hd htq => ?_⟩
    obtain ⟨-, hn, -⟩ := hreach
    rw [routeFrame_tq_of_log hd htq, configTriggers_of_not_read hn, fitting_nil, List.length_append,
      List.length_singleton]

/-- Settles O30: with room for two triggers the trigger queue takes both branches' offers, in the order of the branches. -/
theorem coincidingParametersFollowBranchOrder : Obligations.CoincidingParametersFollowBranchOrder := by
  intro p id rtr l data s htq hcq
  have hlen := frameTriggers_length_le (p := p) (id := id) (rtr := rtr)
  have htqs : (routeFrame p id rtr l data s).tq = s.tq ++ frameTriggers p id rtr := routeFrame_tq_of_room (by omega)
  rw [htqs]
  refine ⟨fun hpp hd hr => ⟨?_, ?_⟩, fun hpp hd hr => ⟨?_, ?_⟩,
    fun hp0 hd => ⟨⟨configTriggers p id rtr, ?_⟩, ?_⟩, fun hc0 hl0 hd hr => ?_⟩
  · rw [frameTriggers_of_log hd]
    cases hf : p.logFallthrough with
    | true => rw [configTriggers_of_read (hd.trans hpp) hr fun _ => hf]; rfl
    | false => rw [configTriggers_of_ended hd hf]; rfl
  · exact routeFrame_cq_of_not_reaches (not_reachesCommand_of_read (hd.trans hpp) hr)
  · rw [frameTriggers_of_log hd, configTriggers_of_not_read (by simp [hr])]
    rfl
  · by_cases h : p.logFallthrough = true ∧ p.logId ≠ 0
    · obtain ⟨hf, h0⟩ := h
      rw [if_pos ⟨hf, h0⟩, routeFrame_cq_of_reaches ⟨hd ▸ h0, by simp [hr], fun _ => hf⟩ hcq, List.length_append,
        List.length_singleton]
    · have hreach : ¬reachesCommand p id rtr := fun ⟨h0, _, hf⟩ => h ⟨hf hd, hd ▸ h0⟩
      rw [if_neg h, routeFrame_cq_of_not_reaches hreach, Nat.add_zero]
  · rw [frameTriggers_of_log (hd.trans hp0.symm)]
    rfl
  · exact routeFrame_cq_of_not_reaches (not_reachesCommand_of_zero hd)
  · have hlog : idDevice id ≠ p.logId := hd ▸ hl0.symm
    rw [frameTriggers_of_not_log hlog, configTriggers_of_read (hd.trans hc0.symm) hr fun h => absurd h hlog, hc0]
    rfl

/-- Settles O23: the issuer is the one R84 names, and the length spells a `Len`. -/
theorem rxFrameRoutesTheFrame : Obligations.RxFrameRoutesTheFrame :=
  fun _ _ _ _ _ _ hi hl => exec_rxFrame_of_some hi (lenOfField_eq_some.2 hl)

/-- Settles O27: no branch offers either queue anything. -/
theorem deviceZeroPushesNothing : Obligations.DeviceZeroPushesNothing := by
  intro p id rtr l data s hd hlog hread
  have htrig : frameTriggers p id rtr = [] := by
    rw [frameTriggers_of_not_log (hd ▸ hlog.symm), configTriggers_of_not_read fun ⟨h, hr⟩ => hread ⟨h.symm.trans hd, hr⟩]
  have hcmd : frameCommands p id rtr l data s = [] :=
    frameCommands_of_not_reaches (not_reachesCommand_of_zero hd)
  simpa [htrig, hcmd] using routeFrame_eq p id rtr l data s

/-- Settles O29: only the CONFIG branch reads the request flag. -/
theorem requestFlagSteersOnlyConfig : Obligations.RequestFlagSteersOnlyConfig :=
  fun _ _ l data s h => routeFrame_flag h true false l data s

end Sys2Proof.Proofs

/-! PROOFS of the statements about the queue ports and the status port (43_queues.md R93 to R99): what each of the four
transactions answers, and the invariant of a step, from the operations up to `step`. -/

namespace Sys2Proof.Safety

open Sys2Proof.Machine

/-! ### Operations keep the occupancy bounds (43_queues.md R99) -/

theorem QueuesBounded.pushTrigger {s : State} (h : QueuesBounded s) (t : Trig) : QueuesBounded (s.pushTrigger t) :=
  ⟨push_length_le h.1 t, h.2⟩

theorem QueuesBounded.pushCommand {s : State} (h : QueuesBounded s) (m : CmdMsg) : QueuesBounded (s.pushCommand m) :=
  ⟨h.1, push_length_le h.2 m⟩

/-- A state whose queues are no longer than those of a bounded one. -/
theorem QueuesBounded.of_length_le {s t : State} (h : QueuesBounded s) (ht : t.tq.length ≤ s.tq.length)
    (hc : t.cq.length ≤ s.cq.length) : QueuesBounded t :=
  ⟨ht.trans h.1, hc.trans h.2⟩

theorem QueuesBounded.routeOther {s : State} (h : QueuesBounded s) (p : Config.Params) (id : Id29) (rtr : Bool)
    (l : Len) : QueuesBounded (routeOther p id rtr l s) := by
  rcases routeOther_cases p id rtr l s with ⟨-, -, e⟩ | ⟨-, -, e⟩ | ⟨-, -, e⟩ <;> rw [e]
  · exact h.pushTrigger _
  · exact h.pushCommand _
  · exact h

theorem QueuesBounded.routeFrame {s : State} (h : QueuesBounded s) (p : Config.Params) (id : Id29) (rtr : Bool)
    (l : Len) (data : Bytes8) : QueuesBounded (routeFrame p id rtr l data s) := by
  have hlatch : QueuesBounded (s.latchScratch l data) := h
  rcases routeFrame_cases p id rtr l data s with ⟨-, -, e⟩ | ⟨-, -, e⟩ | ⟨-, e⟩ <;> rw [e]
  · exact (hlatch.pushTrigger _).routeOther p id rtr l
  · exact hlatch.pushTrigger _
  · exact hlatch.routeOther p id rtr l

/-! ### The list of waiting transactions (00_scope.md R10, log 1) -/

theorem OneWaitEach.of_sublist {s t : State} (h : OneWaitEach s) (hst : t.waiting.Sublist s.waiting) :
    OneWaitEach t :=
  h.sublist (hst.map Request.agent)

/-- A request may be added to those that wait where its agent waits in none. -/
theorem OneWaitEach.settle {s : State} {r : Request} (h : OneWaitEach s)
    (hn : s.waiting.find? (fun x => x.agent = r.agent) = none) : OneWaitEach (s.settle r) := by
  rcases settle_cases r s with ⟨-, e⟩ | ⟨-, e⟩ <;> rw [e]
  · have hr : r.agent ∉ s.waiting.map Request.agent := by simpa using hn
    simpa [OneWaitEach] using List.nodup_append.2 ⟨h, List.nodup_singleton r.agent, by simpa using hr⟩
  · exact h

/-- Taking a transaction off its list keeps the invariant. -/
theorem Invariant.takeRequest {a : Agent} {s t : State} {r : Request} (h : Invariant s)
    (hq : s.takeRequest a = some (r, t)) : Invariant t := by
  obtain ⟨hb, hw⟩ := h
  obtain ⟨-, ⟨-, rfl⟩ | ⟨-, -, rfl⟩⟩ := takeRequest_cases hq
  · exact ⟨hb, hw.of_sublist List.eraseP_sublist⟩
  · exact ⟨hb, hw⟩

end Sys2Proof.Safety

namespace Sys2Proof.Machine

open Sys2Proof.Safety

/-! ### Transactions, and the step, keep the invariant -/

/-- Only a push makes a queue longer, and it stops at the capacity (43_queues.md R93, R94). -/
theorem moves_queuesBounded {i : Instr} {s t : State} (hm : Moves i s t) (h : QueuesBounded s) : QueuesBounded t := by
  cases hm with
  | rxFrame id rtr _ l data => exact h.routeFrame Config.params id rtr l data
  | pushTrig t => exact h.pushTrigger t
  | popTrig _ _ _ _ hq => exact h.of_length_le (by simp [hq]) le_rfl
  | popCmd _ _ _ _ hq => exact h.of_length_le le_rfl (by simp [hq])
  | reset => exact ⟨Nat.zero_le _, Nat.zero_le _⟩
  | _ => exact h

/-- No transaction adds to the list of waiting ones: settling does. RESET empties it (log 10). -/
theorem moves_waiting_sublist {i : Instr} {s t : State} (hm : Moves i s t) : t.waiting.Sublist s.waiting := by
  cases hm with
  | rxFrame => simp
  | reset => exact List.nil_sublist _
  | _ => exact List.Sublist.refl _

theorem issues_queuesBounded {i : Instr} {s t : State} (hi : Issues i s t) (h : QueuesBounded s) :
    QueuesBounded t := by
  cases hi with
  | blocked => exact h
  | moves _ _ hm => exact moves_queuesBounded hm h

theorem issues_waiting_sublist {i : Instr} {s t : State} (hi : Issues i s t) : t.waiting.Sublist s.waiting := by
  cases hi with
  | blocked => exact List.Sublist.refl _
  | moves _ _ hm => exact moves_waiting_sublist hm

/-- A request whose agent waits in no other keeps the invariant, whether it is refused, moves, or waits in its turn. -/
theorem perform_keeps_invariant {r : Request} {s t : State} (hs : Invariant s)
    (hn : s.waiting.find? (fun x => x.agent = r.agent) = none) (h : perform r s = .next t) : Invariant t := by
  obtain ⟨hb, hw⟩ := hs
  rcases perform_cases r s with ⟨_, -, e⟩ | ⟨_, u, -, hu, e⟩ <;> cases h.symm.trans e
  · exact ⟨hb, hw⟩
  · have hsub := issues_waiting_sublist hu
    have hn' : u.waiting.find? (fun x => x.agent = r.agent) = none :=
      List.find?_eq_none.2 fun x hx => List.find?_eq_none.1 hn x (hsub.subset hx)
    have hbu : QueuesBounded u := issues_queuesBounded hu hb
    exact ⟨hbu.of_length_le (by simp) (by simp), (hw.of_sublist hsub).settle hn'⟩

theorem step_keeps_invariant {s t : State} (hs : Invariant s) (h : step s = .next t) : Invariant t := by
  rcases step_cases s with ⟨-, e⟩ | ⟨_, _, -, -, e⟩ | ⟨a, rest, r, u, -, hq, e⟩
  · cases h.symm.trans e
    exact hs
  · cases h.symm.trans e
    exact hs
  · have hbegin : Invariant (s.begin a rest) := hs
    obtain ⟨rfl, -⟩ := takeRequest_cases hq
    exact perform_keeps_invariant (hbegin.takeRequest hq) (takeRequest_leaves_none hbegin.2 hq) (e.symm.trans h)

/-! ### What the queue ports and the status port answer -/

section
variable {s : State}

theorem pushTrigger_of_room (h : s.tq.length < 128) (w : Trig) :
    s.pushTrigger w = { s with tq := s.tq ++ [w] } := by
  simp [State.pushTrigger, push_of_lt (depth := Config.tqDepth) h]

theorem pushTrigger_of_full (h : 128 ≤ s.tq.length) (w : Trig) :
    s.pushTrigger w = { s with tqDropCount := s.tqDropCount + 1 } := by
  simp [State.pushTrigger, push_of_le (depth := Config.tqDepth) h]

theorem tqAccepts_of_room (h : s.tq.length < 128) : s.tqAccepts = true := decide_eq_true h

theorem tqAccepts_of_full (h : 128 ≤ s.tq.length) : s.tqAccepts = false := decide_eq_false (Nat.not_lt.2 h)

theorem exec_pushTrig (hi : s.issuer = .cmdClient) (w : Trig) :
    exec (.pushTrig w) s = .next ((s.pushTrigger w).answer (.accepted s.tqAccepts)) := by
  simp [exec, execPushTrig, hi]

theorem exec_popTrig (hi : s.issuer = .txClient) : exec .popTrig s = .next s.popTrigger := by
  simp [exec, execPopTrig, hi]

theorem exec_popCmd (hi : s.issuer = .cmdClient) : exec .popCmd s = .next s.popCommand := by
  simp [exec, execPopCmd, hi]

end

theorem popTrigger_of_cons {s : State} {w : Trig} {q : List Trig} (h : s.tq = w :: q) :
    s.popTrigger = { s with tq := q, reply := .trigger w } := by
  simp [State.popTrigger, h]

theorem popTrigger_of_nil {s : State} (h : s.tq = []) : s.popTrigger = s.hold := by
  simp [State.popTrigger, h]

theorem popCommand_of_cons {s : State} {m : CmdMsg} {q : List CmdMsg} (h : s.cq = m :: q) :
    s.popCommand = { s with cq := q, reply := .command m } := by
  simp [State.popCommand, h]

theorem popCommand_of_nil {s : State} (h : s.cq = []) : s.popCommand = s.hold := by
  simp [State.popCommand, h]

theorem exec_status (s : State) : exec .status s = .next (s.answer (.status s.statusRecord)) := rfl

end Sys2Proof.Machine

namespace Sys2Proof.Proofs

open Sys2Proof.Machine Sys2Proof.Safety

/-- Settles O55: a push stops at the capacity, and a transaction that waits was its agent's only one. -/
theorem everyStepKeepsTheInvariant : Obligations.EveryStepKeepsTheInvariant :=
  fun _ _ hs h => step_keeps_invariant hs h

/-- Settles O33: the issuer is the one R95 names, and the push takes the word. -/
theorem pushTrigAppendsWithRoom : Obligations.PushTrigAppendsWithRoom := by
  intro w s hi h
  rw [exec_pushTrig hi, pushTrigger_of_room h, tqAccepts_of_room h]
  rfl

/-- Settles O34: the push leaves the full queue as it was and counts the drop. -/
theorem pushTrigDropsWhenFull : Obligations.PushTrigDropsWhenFull := by
  intro w s hi h
  rw [exec_pushTrig hi, pushTrigger_of_full h, tqAccepts_of_full h]
  rfl

/-- Settles O35, by whether the queue has a head. -/
theorem popsTakeTheOldestItemOrHold : Obligations.PopsTakeTheOldestItemOrHold := by
  refine ⟨?_, ?_, ?_, ?_⟩
  · intro w q s hi hq
    rw [exec_popTrig hi, popTrigger_of_cons hq]
  · intro m q s hi hq
    rw [exec_popCmd hi, popCommand_of_cons hq]
  · intro s hi hq
    rw [exec_popTrig hi, popTrigger_of_nil hq]
    rfl
  · intro s hi hq
    rw [exec_popCmd hi, popCommand_of_nil hq]
    rfl

/-- Settles O36: the record is of the state STATUS is taken in, and only the reply is written. -/
theorem statusIsOneSnapshot : Obligations.StatusIsOneSnapshot :=
  exec_status

end Sys2Proof.Proofs

/-! PROOFS of the statement about the answers of a step (60_exceptions.md R100): `perform` answers a next state to every
request, and the step answers one on each of its three ways. -/

namespace Sys2Proof.Machine

/-- Refused for its bits or issued, a request is answered with a next state, never with a fault (60_exceptions.md R100). -/
theorem perform_answers_next (r : Request) (s : State) : ∃ t, perform r s = .next t := by
  rcases perform_cases r s with ⟨_, -, hrefused⟩ | ⟨_, t, -, -, hissued⟩
  · exact ⟨s.refuse, hrefused⟩
  · exact ⟨t.settle r, hissued⟩

end Sys2Proof.Machine

namespace Sys2Proof.Proofs

open Sys2Proof.Machine

/-- Settles O53, by whether an agent is scheduled and whether it presents a request (log 18): the block waits, or the
request is performed. -/
theorem everyStepAnswersANextState : Obligations.EveryStepAnswersANextState := by
  intro s
  rcases step_cases s with ⟨-, hidle⟩ | ⟨a, rest, -, -, hempty⟩ | ⟨_, _, r, u, -, -, htaken⟩
  · exact ⟨s.answer .nothing, hidle⟩
  · exact ⟨s.begin a rest, hempty⟩
  · obtain ⟨t, ht⟩ := perform_answers_next r u
    exact ⟨t, htaken.trans ht⟩

end Sys2Proof.Proofs

/-! PROOFS of the statements about reset and hazards (70_reset_and_hazards.md R114, R122, R126): what RESET answers, the
identifier bits the router reads, and the turns of the clients of a quiescent state. -/

namespace Sys2Proof.Machine

open Sys2Proof.Safety

/-! ### RESET (70_reset_and_hazards.md R114) -/

theorem exec_reset {s : State} (hi : s.issuer = .platform) : exec .reset s = .next (s.resetBlock.answer .done) := by
  simp [exec, execReset, hi]

/-! ### Bits 28:24 of an identifier (70_reset_and_hazards.md R122) -/

/-- Unpacking reads bits 23:0 only (40_codec.md R67). -/
theorem unpackAddress_low24 (id : Id29) : unpackAddress (id &&& 0x00FFFFFF#29) = unpackAddress id := by
  rw [← packAddress_unpackAddress, unpackAddress_packAddress]

/-- The router reads an identifier through its address alone: the device selects the branches, the low byte is the event
code, and the command record is built from all three bytes. -/
theorem routeFrame_congr_address {id id' : Id29} (h : unpackAddress id = unpackAddress id') (p : Config.Params)
    (rtr : Bool) (l : Len) (data : Bytes8) (s : State) :
    routeFrame p id rtr l data s = routeFrame p id' rtr l data s := by
  have hdevice : idDevice id = idDevice id' := congrArg WireAddress.device h
  have hcode : idEventCode id = idEventCode id' := congrArg WireAddress.subpacket h
  simp only [routeFrame, routeOther, State.commandFor, h, hdevice, hcode]

theorem exec_rxFrame_congr_address {id id' : Id29} (h : unpackAddress id = unpackAddress id') (rtr : Bool)
    (len : BitVec 4) (data : Bytes8) (s : State) :
    exec (.rxFrame id rtr len data) s = exec (.rxFrame id' rtr len data) s := by
  simp only [exec, execRxFrame, routeFrame_congr_address h]

/-- Stripping the low byte keeps bits 28:24. -/
theorem stripLowByte_upper (id : Id29) : (stripLowByte id).extractLsb' 24 5 = id.extractLsb' 24 5 := by
  have hkept : (stripLowByte id).extractLsb' 24 5 = (id.extractLsb' 8 21).extractLsb' 16 5 := by
    rw [stripLowByte_eq_append]
    exact extractLsb'_append_high _ _ 16 5
  have hfield : id.extractLsb' 24 5 = (id.extractLsb' 8 21).extractLsb' 16 5 := by
    conv_lhs => rw [id_eq_append_lowByte id]
    exact extractLsb'_append_high _ _ 16 5
  rw [hkept, hfield]

/-! ### A blocked transaction holds (60_exceptions.md R113) -/

theorem exec_of_blocked {i : Instr} {s : State} (hi : s.issuer ∈ allowed i) (hw : i.wellFormed = true)
    (hb : Blocked i s) : exec i s = .next s.hold := by
  obtain ⟨t, ht, hm⟩ := exec_moves i s
  rw [ht]
  cases hm with
  | refused _ _ hr => simp [hi, hw] at hr
  | held => rfl
  | sendAccept _ _ _ _ _ _ _ hq => exact absurd hq hb
  | sendIssue _ _ _ hq => exact absurd hq hb
  | sendFinish _ _ hq hp => exact absurd ⟨hq, hp⟩ hb
  | popTrig _ _ _ _ hq => exact absurd (hb.symm.trans hq) nofun
  | popCmd _ _ _ _ hq => exact absurd (hb.symm.trans hq) nofun
  | _ => exact hb.elim

/-- The hold inside the transmit client's request makes no difference to a transaction that holds anyway. -/
theorem issue_of_blocked {i : Instr} {s : State} (hi : s.issuer ∈ allowed i) (hw : i.wellFormed = true)
    (hb : Blocked i s) : issue i s = .next s.hold := by
  rw [issue_of_exec (exec_of_blocked hi hw hb)]
  rcases heldBack_cases i s s.hold with ⟨-, -, -, e⟩ | ⟨-, e⟩ <;> rw [e]

/-! ### Who waits in what, after a transaction was taken and held again -/

/-- Taking off a request of `a` leaves the first request of every other agent. -/
theorem find?_eraseP_agent_of_ne {a b : Agent} (hab : b ≠ a) (l : List Request) :
    (l.eraseP (fun r => r.agent = a)).find? (fun r => r.agent = b) = l.find? (fun r => r.agent = b) := by
  induction l with
  | nil => rfl
  | cons x xs ih =>
    by_cases ha : x.agent = a
    · simp [ha, hab.symm]
    · simp [ha, List.find?_cons, ih]

/-- A request taken off the list and put back at its end leaves every agent waiting in what it waited in. -/
theorem find?_requeue_agent {l : List Request} (h : (l.map Request.agent).Nodup) {a : Agent} {r : Request}
    (hr : l.find? (fun x => x.agent = a) = some r) (b : Agent) :
    (l.eraseP (fun x => x.agent = a) ++ [r]).find? (fun x => x.agent = b) = l.find? (fun x => x.agent = b) := by
  have ha : r.agent = a := by simpa using List.find?_some hr
  by_cases hab : b = a
  · subst hab
    simp [List.find?_append, find?_eraseP_agent h, hr, ha]
  · simp [List.find?_append, find?_eraseP_agent_of_ne hab, ha, Ne.symm hab]

/-- An agent that waits in a transaction presents it, and it is taken off the list of those that wait (log 1). -/
theorem takeRequest_of_waiting {a : Agent} {s : State} {r : Request}
    (hr : s.waiting.find? (fun x => x.agent = a) = some r) :
    s.takeRequest a = some (r, { s with waiting := s.waiting.eraseP (fun x => x.agent = a) }) := by
  simp [State.takeRequest, hr]

/-- Whether a transaction is blocked depends on the block alone. -/
theorem blocked_congr {s t : State} (h : blockOf t = blockOf s) (i : Instr) : Blocked i t ↔ Blocked i s := by
  have htq : t.tq = s.tq := congrArg Block.tq h
  have hcq : t.cq = s.cq := congrArg Block.cq h
  have hpermit : t.permit = s.permit := congrArg Block.permit h
  have hseq : t.seq = s.seq := congrArg Block.seq h
  simp only [Blocked, htq, hcq, hpermit, hseq]

/-- An agent that waits in a blocked transaction is held again in its turn, and every agent then waits in what it waited
in. -/
theorem step_of_waits_blocked {s : State} {a : Agent} {rest : List Agent} {r : Request} {i : Instr}
    (hw : OneWaitEach s) (hs : s.schedule = a :: rest) (hr : s.waiting.find? (fun x => x.agent = a) = some r)
    (hd : decode r.word = .ok i) (hi : a ∈ allowed i) (hwf : i.wellFormed = true) (hb : Blocked i s) :
    ∃ t, step s = .next t ∧ blockOf t = blockOf s ∧ t.inbox = s.inbox ∧
      ∀ b, t.waiting.find? (fun x => x.agent = b) = s.waiting.find? (fun x => x.agent = b) := by
  have hq := takeRequest_of_waiting (s := s.begin a rest) hr
  obtain ⟨hissuer, hblock, -⟩ := takeRequest_frame hq
  have hissue := issue_of_blocked (hissuer ▸ hi) hwf ((blocked_congr hblock i).2 hb)
  exact ⟨_, (step_eq_perform hs hq).trans (perform_of_issue hd hissue), rfl, rfl, find?_requeue_agent hw hr⟩

/-- An agent with nothing to present leaves the state as it was but for the schedule and the reply (log 18). -/
theorem step_of_presents_nothing {s : State} {a : Agent} {rest : List Agent} (hs : s.schedule = a :: rest)
    (hw : s.waiting.find? (fun x => x.agent = a) = none) (hn : s.inbox.find? (fun x => x.agent = a) = none) :
    step s = .next (s.begin a rest) := by
  simp [step, hs, State.takeRequest, hw, hn]

end Sys2Proof.Machine

namespace Sys2Proof.Safety

open Sys2Proof.Machine

/-! ### Clients at rest (70_reset_and_hazards.md R126, log 22) -/

/-- A client at rest waits in a pop of an empty queue, or has nothing to present. -/
theorem clientAtRest_cases {a : Agent} {s : State} (h : clientAtRest a s = true) :
    (∃ r i, s.waiting.find? (fun x => x.agent = a) = some r ∧ decode r.word = .ok i ∧
      a ∈ allowed i ∧ i.wellFormed = true ∧ Blocked i s) ∨
    (s.waiting.find? (fun x => x.agent = a) = none ∧ s.inbox.find? (fun x => x.agent = a) = none) := by
  unfold clientAtRest at h
  split at h
  next r hr =>
    left
    simp only [Bool.or_eq_true, Bool.and_eq_true, decide_eq_true_eq, List.isEmpty_iff] at h
    rcases h with ⟨⟨rfl, hd⟩, hempty⟩ | ⟨⟨rfl, hd⟩, hempty⟩
    · exact ⟨r, .popTrig, hr, hd, by decide, rfl, hempty⟩
    · exact ⟨r, .popCmd, hr, hd, by decide, rfl, hempty⟩
  next hn => exact .inr ⟨hn, Option.isNone_iff_eq_none.1 h⟩

/-- Being at rest depends on the block, on what the client waits in and on its inbox alone. -/
theorem clientAtRest_congr {a : Agent} {s t : State} (hb : blockOf t = blockOf s) (hi : t.inbox = s.inbox)
    (hw : t.waiting.find? (fun x => x.agent = a) = s.waiting.find? (fun x => x.agent = a)) :
    clientAtRest a t = clientAtRest a s := by
  have htq : t.tq = s.tq := congrArg Block.tq hb
  have hcq : t.cq = s.cq := congrArg Block.cq hb
  simp only [clientAtRest, hw, hi, htq, hcq]

theorem Quiescent.congr {s t : State} (h : Quiescent s) (hb : blockOf t = blockOf s) (hi : t.inbox = s.inbox)
    (hw : ∀ a, t.waiting.find? (fun x => x.agent = a) = s.waiting.find? (fun x => x.agent = a)) : Quiescent t := by
  obtain ⟨hseq, htx, hcmd⟩ := h
  exact ⟨(congrArg Block.seq hb).trans hseq, (clientAtRest_congr hb hi (hw _)).trans htx,
    (clientAtRest_congr hb hi (hw _)).trans hcmd⟩

end Sys2Proof.Safety

namespace Sys2Proof.Proofs

open Sys2Proof.Machine Sys2Proof.Safety

/-- Settles O31: the router reads the identifier through its unpacked address, which has no bit above 23. -/
theorem upperIdentifierBitsAreAliased : Obligations.UpperIdentifierBitsAreAliased :=
  ⟨fun id rtr len data s => exec_rxFrame_congr_address (unpackAddress_low24 id).symm rtr len data s, stripLowByte_upper⟩

/-- Settles O58, by the two ways of being at rest: the pop the client waits in holds again and waits as before, or the
client presents nothing. -/
theorem quiescentClientsStayAtRest : Obligations.QuiescentClientsStayAtRest := by
  rintro s a rest ⟨-, hwait⟩ hquiet hs ha
  have hrest : clientAtRest a s = true := by
    obtain ⟨-, htx, hcmd⟩ := hquiet
    rcases ha with rfl | rfl
    · exact htx
    · exact hcmd
  rcases clientAtRest_cases hrest with ⟨r, i, hr, hd, hi, hwf, hb⟩ | ⟨hw, hn⟩
  · obtain ⟨t, ht, hblock, hinbox, hwaits⟩ := step_of_waits_blocked hwait hs hr hd hi hwf hb
    exact ⟨t, ht, hblock, hquiet.congr hblock hinbox hwaits⟩
  · exact ⟨s.begin a rest, step_of_presents_nothing hs hw hn, rfl, hquiet⟩

/-- Settles O39: the draws and free values of `State.resetBlock` are the values nothing is said of. -/
theorem resetRestartsTheBlock : Obligations.ResetRestartsTheBlock :=
  fun _ hi => ⟨_, _, _, _, _, exec_reset hi⟩

end Sys2Proof.Proofs
